-- ==== Sys2Proof/Word.lean ====
section
/-! DEFINITION. The word types of WM-PDB (`00_scope.md` R10). -/

namespace Sys2Proof

/-- A byte (`00_scope.md` R10). -/
abbrev Byte := BitVec 8

/-- A 16-bit field: a coordinate, a colour, a coefficient. -/
abbrev Half := BitVec 16

/-- A 32-bit operand or result. -/
abbrev Word := BitVec 32

/-- A value of the 64-bit compensation datapath (`00_scope.md` R11), or a tick count. -/
abbrev Quad := BitVec 64

end Sys2Proof
end

