-- ==== Sys2Proof/Config.lean ====
section
/-! DEFINITION. The parameters of one instance of the block (`00_scope.md` R7 to R9), the two constant tables
(`20_memory.md` R72), and the free constants of the model: values the spec leaves open, which have no body. -/

namespace Sys2Proof

/-- One entry of `DS_INIT_SEQ`: opcode, parameter bytes, settle delay in ticks (`00_scope.md` R9). -/
structure InitEntry where
  op    : Byte
  data  : List Byte
  delay : Nat
  deriving DecidableEq, Repr

/-- The configuration record (`00_scope.md` R7, R8, R9). Durations are in ticks (R6). -/
structure Config where
  /-- `SW_T_IDLE_HIGH` -/
  swIdleHigh : Nat
  /-- `SW_T_START_LOW` -/
  swStartLow : Nat
  /-- `SW_T_START_HIGH` -/
  swStartHigh : Nat
  /-- `SW_N_ACK` -/
  swNAck : Nat
  /-- `SW_N_BIT` -/
  swNBit : Nat
  /-- `SW_T_THRESH` -/
  swThresh : Nat
  /-- `SW_MIN_INTERVAL` -/
  swMinInterval : Nat
  /-- `CB_ADDR_A` -/
  cbAddrA : BitVec 7
  /-- `CB_ADDR_B` -/
  cbAddrB : BitVec 7
  /-- `CB_REG_ID` -/
  cbRegId : Byte
  /-- `CB_ID_EXPECT` -/
  cbIdExpect : Byte
  /-- `CB_REG_CALIB` -/
  cbRegCalib : Byte
  /-- `CB_REG_CONFIG`: never accessed (`41_bus_sensor.md` R175) -/
  cbRegConfig : Byte
  /-- `CB_REG_CTRL` -/
  cbRegCtrl : Byte
  /-- `CB_CTRL_VALUE` -/
  cbCtrlValue : Byte
  /-- `CB_REG_PRESS` -/
  cbRegPress : Byte
  /-- `CB_REG_TEMP` -/
  cbRegTemp : Byte
  /-- `CB_HAS_ALTITUDE` -/
  cbHasAltitude : Bool
  /-- `CB_ALT_TOL` -/
  cbAltTol : Nat
  /-- `PANEL_W` -/
  panelW : Nat
  /-- `PANEL_H` -/
  panelH : Nat
  /-- `DS_T_RESET_LOW` -/
  dsResetLow : Nat
  /-- `DS_T_RESET_WAIT` -/
  dsResetWait : Nat
  /-- `DS_INIT_SEQ`: exactly sixteen entries -/
  dsInitSeq : Vector InitEntry 16
  /-- `DS_OP_CASET` -/
  dsOpCaset : Byte
  /-- `DS_OP_RASET` -/
  dsOpRaset : Byte
  /-- `DS_OP_RAMWR` -/
  dsOpRamwr : Byte
  /-- `DS_CHUNK` -/
  dsChunk : Nat
  /-- `DS_FONT`: 95 glyphs of 64 bits; bit 8·row + col of a glyph is its pixel at (row, col). The packing is the model's,
  and not architectural (`30_encoding.md` R114; log 11). -/
  dsFont : Vector (BitVec 64) 95
  /-- `DS_HAS_CS` -/
  dsHasCs : Bool
  /-- `DS_HAS_BL` -/
  dsHasBl : Bool
  deriving DecidableEq, Repr

/-- `CB_CALIB_LEN`, the bytes of the calibration block: 24, twelve 16-bit coefficients (`00_scope.md` R8; log 17). -/
def Config.calibLen : Nat := 24

/-- The constraints the model may assume of the parameters (`00_scope.md` R7, R8, R9). -/
structure Config.Ok (c : Config) : Prop where
  ackPos       : 1 ≤ c.swNAck
  bitPos       : 1 ≤ c.swNBit
  threshBelow  : c.swThresh + 2 ≤ c.swNBit
  addrDistinct : c.cbAddrA ≠ c.cbAddrB
  widthPos     : 1 ≤ c.panelW
  widthLe      : c.panelW ≤ 65536
  heightPos    : 1 ≤ c.panelH
  heightLe     : c.panelH ≤ 65536
  areaLt       : c.panelW * c.panelH < 2 ^ 32
  chunkPos     : 1 ≤ c.dsChunk
  dataShort    : ∀ k : Fin 16, c.dsInitSeq[k].data.length ≤ 255

/-- The address commands and the memory-write are told apart from each other and from the initialization commands. -/
structure Config.AddressOpsDistinct (c : Config) : Prop where
  casetRaset : c.dsOpCaset ≠ c.dsOpRaset
  casetRamwr : c.dsOpCaset ≠ c.dsOpRamwr
  rasetRamwr : c.dsOpRaset ≠ c.dsOpRamwr
  initCaset  : ∀ k : Fin 16, c.dsInitSeq[k].op ≠ c.dsOpCaset
  initRaset  : ∀ k : Fin 16, c.dsInitSeq[k].op ≠ c.dsOpRaset
  initRamwr  : ∀ k : Fin 16, c.dsInitSeq[k].op ≠ c.dsOpRamwr

/-! ## Free constants

None of them has a body, so nothing can be proved of their values: a claim is true whatever they are. -/

/-- The level of the released line at a sample nothing has written out (`20_memory.md` R66; log 5). -/
opaque Config.lineLevel : Nat → Bool

/-- How many ticks a bus transfer nothing has written out takes (`20_memory.md` R61 to R64; log 5). -/
opaque Config.busTicks : Nat → Nat

/-- Whether a bus transfer nothing has written out succeeds (`20_memory.md` R67, R68; log 5). -/
opaque Config.busAck : Nat → Bool

/-- Byte k of an I2C read nothing has written out (`20_memory.md` R67; log 5). -/
opaque Config.busByte : Nat → Nat → Byte

/-- `CB_ADDR` after a `CB_NEW` that failed at `CALIB` or `CONFIG` (`41_bus_sensor.md` R171, U6; log 9). -/
opaque Config.lostAddr : Nat → BitVec 7

/-- Coefficient j after a `CB_NEW` that failed at `CALIB` or `CONFIG` (`41_bus_sensor.md` R171, U6; log 9). -/
opaque Config.lostCoeff : Nat → Nat → Half

/-- What an implementation computes for the altitude, before the bound of `41_bus_sensor.md` R182 (U8; log 10). -/
opaque Config.altRaw : Word → Word → Word

/-- `SW_MIN_INTERVAL` of the instance at reset: OPEN, no default (D2; log 3). -/
opaque Config.openMinInterval : Nat

/-- `DS_FONT` of the instance at reset: OPEN, its contents are lost (D20; log 3). -/
opaque Config.openFont : Nat → BitVec 64

/-- `DS_INIT_SEQ` with the defaults of `42_display.md` R203 to R218 (general knowledge, GK6; log 2). -/
def Config.defaultInitSeq : Vector InitEntry 16 := #v[
  { op := 0x01, data := [], delay := 150 },
  { op := 0x11, data := [], delay := 120 },
  { op := 0x36, data := [0x00], delay := 0 },
  { op := 0x3A, data := [0x55], delay := 0 },
  { op := 0xB2, data := [0x0C, 0x0C, 0x00, 0x33, 0x33], delay := 0 },
  { op := 0xB7, data := [0x35], delay := 0 },
  { op := 0xBB, data := [0x19], delay := 0 },
  { op := 0xC0, data := [0x2C], delay := 0 },
  { op := 0xC3, data := [0x12], delay := 0 },
  { op := 0xC4, data := [0x20], delay := 0 },
  { op := 0xD0, data := [0xA4, 0xA1], delay := 0 },
  { op := 0xC6, data := [0x0F], delay := 0 },
  { op := 0xE0, data := [0xD0, 0x04, 0x0D, 0x11, 0x13, 0x2B, 0x3F, 0x54, 0x4C, 0x18, 0x0D, 0x0B, 0x1F, 0x23], delay := 0 },
  { op := 0xE1, data := [0xD0, 0x04, 0x0C, 0x11, 0x13, 0x2C, 0x3F, 0x44, 0x51, 0x2F, 0x1F, 0x1F, 0x20, 0x23], delay := 0 },
  { op := 0x21, data := [], delay := 0 },
  { op := 0x29, data := [], delay := 120 }]

/-- The instance of the model's reset state: the default column of `00_scope.md` R7 to R9; the two OPEN parameters are
free constants (log 2, log 3). -/
def Config.default : Config where
  swIdleHigh    := 50
  swStartLow    := 18
  swStartHigh   := 40
  swNAck        := 100
  swNBit        := 100
  swThresh      := 40
  swMinInterval := Config.openMinInterval
  cbAddrA       := 0x76
  cbAddrB       := 0x77
  cbRegId       := 0xD0
  cbIdExpect    := 0x58
  cbRegCalib    := 0x88
  cbRegConfig   := 0xF5
  cbRegCtrl     := 0xF4
  cbCtrlValue   := 0x27
  cbRegPress    := 0xF7
  cbRegTemp     := 0xFA
  cbHasAltitude := true
  cbAltTol      := 1
  panelW        := 240
  panelH        := 240
  dsResetLow    := 50
  dsResetWait   := 150
  dsInitSeq     := Config.defaultInitSeq
  dsOpCaset     := 0x2A
  dsOpRaset     := 0x2B
  dsOpRamwr     := 0x2C
  dsChunk       := 256
  dsFont        := Vector.ofFn (fun g : Fin 95 => Config.openFont g.val)
  dsHasCs       := true
  dsHasBl       := true

end Sys2Proof
end

