-- ==== Sys2Proof/Syntax.lean ====
section
/-! DEFINITION. The instructions: one constructor per row of the opcode table. The first twelve are the host commands
(`30_encoding.md` R104), the other nineteen the display wire commands the DSP sequencer sends (`42_display.md` R203 to R218,
R222 to R224). -/

namespace Sys2Proof

/-- An instruction of WM-PDB. Operands are as the formats of `30_encoding.md` R102 carry them. -/
inductive Instr where
  /-- `SW_MEASURE`, format N, `40_single_wire.md` R141 -/
  | swMeasure
  /-- `SW_TEMPERATURE`, format N, `40_single_wire.md` R148 -/
  | swTemperature
  /-- `SW_HUMIDITY`, format N, `40_single_wire.md` R149 -/
  | swHumidity
  /-- `CB_NEW addr`, format A, `41_bus_sensor.md` R171 -/
  | cbNew (addr : BitVec 7)
  /-- `CB_READ`, format N, `41_bus_sensor.md` R176 -/
  | cbRead
  /-- `CB_ALTITUDE p, p0`, format Q, `41_bus_sensor.md` R182 -/
  | cbAltitude (p p0 : Word)
  /-- `DS_NEW`, format N, `42_display.md` R201 -/
  | dsNew
  /-- `DS_SET_WINDOW x0, y0, x1, y1`, format W, `42_display.md` R220 -/
  | dsSetWindow (x0 y0 x1 y1 : Half)
  /-- `DS_FILL_RECT x, y, w, h, color`, format R, `42_display.md` R230 -/
  | dsFillRect (x y w h color : Half)
  /-- `DS_PIXEL x, y, color`, format P, `42_display.md` R226 -/
  | dsPixel (x y color : Half)
  /-- `DS_DRAW_TEXT x, y, color, has_bg, bg, text`, format T, `42_display.md` R235 -/
  | dsDrawText (x y color : Half) (hasBg : Bool) (bg : Half) (text : List Byte)
  /-- `DS_PUSH color`, format C, `42_display.md` R225 -/
  | dsPush (color : Half)
  /-- software-reset, entry 0 of `DS_INIT_SEQ`, `42_display.md` R203 -/
  | dsOpSwreset
  /-- sleep-out, entry 1, R204 -/
  | dsOpSlpout
  /-- memory-access-control, entry 2, R205 -/
  | dsOpMadctl
  /-- pixel-format, entry 3, R206 -/
  | dsOpColmod
  /-- porch-setting, entry 4, R207 -/
  | dsOpPorctrl
  /-- gate-control, entry 5, R208 -/
  | dsOpGctrl
  /-- VCOM-setting, entry 6, R209 -/
  | dsOpVcoms
  /-- LCM-control, entry 7, R210 -/
  | dsOpLcmctrl
  /-- power-control, first of three, entry 8, R211 -/
  | dsOpPwr1
  /-- power-control, second of three, entry 9, R212 -/
  | dsOpPwr2
  /-- power-control, third of three, entry 10, R213 -/
  | dsOpPwr3
  /-- frame-rate-control, entry 11, R214 -/
  | dsOpFrctrl
  /-- gamma-positive, entry 12, R215 -/
  | dsOpPvgam
  /-- gamma-negative, entry 13, R216 -/
  | dsOpNvgam
  /-- inversion-on, entry 14, R217 -/
  | dsOpInvon
  /-- display-on, entry 15, R218 -/
  | dsOpDispon
  /-- column-address-set with the column bounds, R222 -/
  | dsOpCaset (x0 x1 : Half)
  /-- row-address-set with the row bounds, R223 -/
  | dsOpRaset (y0 y1 : Half)
  /-- memory-write, R224 -/
  | dsOpRamwr
  deriving DecidableEq, Repr

/-- The colour name `WHITE` (`30_encoding.md` R116). -/
def white : Half := 0xFFFF

end Sys2Proof
end

