-- ==== Sys2Proof/Machine/State.lean ====
section
/-! DEFINITION. The state of WM-PDB (`10_state.md`), the environment's answers it will read (`20_memory.md` R66 to R69), what it
has shown of itself (R82, `30_encoding.md` R101), and its value after reset (`10_state.md` R45). -/

namespace Sys2Proof.Machine

/-! ## Names -/

/-- The status codes of `60_exceptions.md` R260, by name. -/
inductive Status where
  | ok
  | timeoutError
  | checksumError
  | deviceNotFoundError
  | busError
  | boundsError
  | notReadyError
  | compensationError
  | illegal
  deriving DecidableEq, Repr

/-- The three units (`00_scope.md` R2). -/
inductive BlockUnit where
  | sws
  | cbs
  | dsp
  deriving DecidableEq, Repr

/-- `SW_SEQ`: the labels of `40_single_wire.md` R141 that a tick can be spent in, and `IDLE` (R22, R151). -/
inductive SwSeq where
  | idle
  | pre
  | startL
  | startH
  | ackL
  | ackH
  | fall
  | rise
  | high
  deriving DecidableEq, Repr

/-- `CB_SEQ`: the labels of `41_bus_sensor.md` R171 and R176, and `IDLE` (R22). A label of an operation with operands or local
values stands with those the rest of the operation needs (log 8). -/
inductive CbSeq where
  | idle
  /-- `ENTRY` of `CB_NEW` with its operand -/
  | entry (addr : BitVec 7)
  /-- `PROBE`, at the first candidate or at the second -/
  | probe (addr : BitVec 7) (second : Bool)
  | calib (found : BitVec 7)
  | config (found : BitVec 7)
  /-- `DONE` of `CB_NEW` -/
  | newDone (found : BitVec 7)
  | check
  | rdT
  | rdP
  | compT
  | compP
  /-- `DONE` of `CB_READ`, with the pair it commits -/
  | readDone (t p : Word)
  deriving DecidableEq, Repr

/-- `DS_SEQ`: the labels of `42_display.md` R201 and R230, the three transfers of a `DS_SET_WINDOW` with its operands (R221), and
`IDLE` (R22). The encoding of a label is not architectural (R22); a label stands with the operands and local values that the rest
of its operation needs (log 8). -/
inductive DsSeq where
  | idle
  | entry
  | reset
  /-- at the wire command of entry k of `DS_INIT_SEQ`, inside `DS_NEW` -/
  | init (k : Fin 16)
  | bl
  | done
  /-- at the column-address-set of a `DS_SET_WINDOW` with these operands -/
  | caset (x0 y0 x1 y1 : Half)
  /-- at its row-address-set -/
  | raset (x0 y0 x1 y1 : Half)
  /-- at its memory-write -/
  | ramwr (x0 y0 x1 y1 : Half)
  /-- `CLAMP` of a `DS_FILL_RECT` with these operands -/
  | clamp (x y w h color : Half)
  /-- `WIN`, with the clamped sides -/
  | win (x y : Half) (w h : Nat) (color : Half)
  /-- `LOAD`, with n pixels to fill -/
  | load (n : Nat) (color : Half)
  /-- `STREAM`, with n pixels left -/
  | stream (n : Nat)
  deriving DecidableEq, Repr

/-- The pins whose writes are events (`20_memory.md` R82). -/
inductive Pin where
  | rstN
  | bl
  deriving DecidableEq, Repr

/-- One event per primitive call (`20_memory.md` R82). -/
inductive Event where
  /-- `EvLine(drive, v)` -/
  | lineDrive (v : Bool)
  /-- `EvLine(release)` -/
  | lineRelease
  /-- `EvLine(sample, v)`: v is the level read -/
  | lineSample (v : Bool)
  /-- `EvI2cRead(a, reg, n, result)`; no result is `nack` -/
  | i2cRead (a : BitVec 7) (reg : Byte) (n : Nat) (result : Option (List Byte))
  /-- `EvI2cWrite(a, reg, bytes, result)` -/
  | i2cWrite (a : BitVec 7) (reg : Byte) (bytes : List Byte) (ack : Bool)
  /-- `EvSpiCmd(b, result)` -/
  | spiCmd (b : Byte) (ok : Bool)
  /-- `EvSpiData(bytes, result)` -/
  | spiData (bytes : List Byte) (ok : Bool)
  /-- `EvDelay(n)` -/
  | delay (n : Nat)
  /-- `EvPin(name, value)` -/
  | pin (p : Pin) (v : Bool)
  deriving DecidableEq, Repr

/-- A move of the host (`70_reset_and_hazards.md` R316). A packet is a non-empty list of bytes (`30_encoding.md` R100). -/
inductive HostMove where
  /-- Let n ticks pass (`20_memory.md` R69). -/
  | wait (n : Nat)
  /-- Present the packet whose byte 0 is `op`. -/
  | packet (op : Byte) (rest : List Byte)
  deriving DecidableEq, Repr

/-- The I2C responder's answer to one transaction (`20_memory.md` R61, R62, R67): ticks taken, acknowledged or not, and the bytes
of a read. -/
structure I2cAnswer where
  ticks : Nat
  ack   : Bool
  bytes : List Byte
  deriving DecidableEq, Repr

/-- The SPI sink's answer to one transfer (`20_memory.md` R63, R64, R68). -/
structure SpiAnswer where
  ticks : Nat
  ok    : Bool
  deriving DecidableEq, Repr

/-! ## Registers -/

/-- The registers of SWS (`10_state.md` R22, R25 to R30). -/
structure Sws where
  /-- `SW_SEQ` -/
  seq   : SwSeq
  /-- `SW_BUF[0..4]` -/
  buf   : Vector Byte 5
  /-- `SW_HUM` -/
  hum   : Byte
  /-- `SW_TEMP` -/
  temp  : Byte
  /-- `SW_VALID` -/
  valid : Bool
  /-- `SW_TS` -/
  ts    : Quad
  /-- `SW_CNT` -/
  cnt   : Nat
  /-- `SW_BIT` -/
  bit   : Nat
  /-- `SW_OE` -/
  oe    : Bool
  /-- `SW_OUT` -/
  out   : Bool
  deriving DecidableEq, Repr

/-- The coefficient file (`10_state.md` R33). -/
structure Coeffs where
  t1 : Half
  t2 : Half
  t3 : Half
  p1 : Half
  p2 : Half
  p3 : Half
  p4 : Half
  p5 : Half
  p6 : Half
  p7 : Half
  p8 : Half
  p9 : Half
  deriving DecidableEq, Repr

/-- The registers of CBS (`10_state.md` R22, R31 to R36). -/
structure Cbs where
  /-- `CB_SEQ` -/
  seq    : CbSeq
  /-- `CB_READY` -/
  ready  : Bool
  /-- `CB_ADDR` -/
  addr   : BitVec 7
  /-- `CB_T1` .. `CB_P9` -/
  coef   : Coeffs
  /-- `CB_TFINE` -/
  tfine  : Word
  /-- `CB_ADC_T` -/
  adcT   : BitVec 20
  /-- `CB_ADC_P` -/
  adcP   : BitVec 20
  /-- `CB_T` -/
  t      : Word
  /-- `CB_P` -/
  p      : Word
  /-- `CB_RVALID` -/
  rvalid : Bool
  /-- `CB_TS` -/
  ts     : Quad
  deriving DecidableEq, Repr

/-- The registers and pins of DSP (`10_state.md` R22, R37 to R42). -/
structure Dsp where
  /-- `DS_SEQ` -/
  seq    : DsSeq
  /-- `DS_READY` -/
  ready  : Bool
  /-- `DS_X0` -/
  x0     : Half
  /-- `DS_Y0` -/
  y0     : Half
  /-- `DS_X1` -/
  x1     : Half
  /-- `DS_Y1` -/
  y1     : Half
  /-- `DS_STREAM` -/
  stream : Bool
  /-- `DS_REMAIN` -/
  remain : Word
  /-- `DS_CX` -/
  cx     : BitVec 17
  /-- `DS_CY` -/
  cy     : BitVec 17
  /-- `DS_OX` -/
  ox     : Half
  /-- `DS_ROW` -/
  row    : BitVec 3
  /-- `DS_COL` -/
  col    : BitVec 3
  /-- `DS_CHUNK_BUF` -/
  chunk  : List Half
  /-- `DS_RST_N` -/
  rstN   : Bool
  /-- `DS_DC` -/
  dc     : Bool
  /-- `DS_CS_N` -/
  csN    : Bool
  /-- `DS_BL` -/
  bl     : Bool
  deriving DecidableEq, Repr

/-- The inputs the block will see: the host's moves and the environment's answers, in order, for as long as they are written out
(`20_memory.md` R66 to R69). Where a list of answers has ended the answer is free: a constant of `Config` applied to `draws`
(log 5). -/
structure Env where
  port  : List HostMove
  line  : List Bool
  i2c   : List I2cAnswer
  spi   : List SpiAnswer
  draws : Nat
  deriving DecidableEq, Repr

/-- What the block has shown, newest first: the event history (`20_memory.md` R82) and the responses (`30_encoding.md` R101). -/
structure Obs where
  events    : List Event
  responses : List (List Byte)
  deriving DecidableEq, Repr

/-- The whole machine. `cfg` is the instance's parameters, which no operation writes (`10_state.md` R24; log 2). -/
structure State where
  cfg  : Config
  /-- `TICK_CNT` (R21) -/
  tick : Quad
  /-- `BUSY` (R23) -/
  busy : Bool
  sws  : Sws
  cbs  : Cbs
  dsp  : Dsp
  env  : Env
  obs  : Obs
  deriving DecidableEq, Repr

/-- Why the machine stops: for no reason at all. An error of the block is a status, after which it goes on (`60_exceptions.md` R267,
R270), every wait is bounded and every operation ends (`10_state.md` R46). -/
inductive Fault where
  deriving DecidableEq, Repr

/-- Why an instruction is turned away. -/
inductive Refusal where
  /-- An instruction without a meaning yet, by its mnemonic. No arm of `exec` answers it: every instruction has its meaning. Safe. -/
  | notModelled (mnemonic : String)
  deriving DecidableEq, Repr

/-! ## Reset -/

/-- SWS after reset (`10_state.md` R45; the unspecified registers are 0: log 4). -/
def Sws.reset : Sws where
  seq   := .idle
  buf   := #v[0, 0, 0, 0, 0]
  hum   := 0
  temp  := 0
  valid := false
  ts    := 0
  cnt   := 0
  bit   := 0
  oe    := false
  out   := false

/-- Twelve zero coefficients (log 4). -/
def Coeffs.zero : Coeffs := ⟨0, 0, 0, 0, 0, 0, 0, 0, 0, 0, 0, 0⟩

/-- CBS after reset (`10_state.md` R45; the unspecified registers are 0: log 4). -/
def Cbs.reset : Cbs where
  seq    := .idle
  ready  := false
  addr   := 0
  coef   := Coeffs.zero
  tfine  := 0
  adcT   := 0
  adcP   := 0
  t      := 0
  p      := 0
  rvalid := false
  ts     := 0

/-- DSP after reset (`10_state.md` R45; the unspecified registers are 0: log 4). -/
def Dsp.reset (chunkSize : Nat) : Dsp where
  seq    := .idle
  ready  := false
  x0     := 0
  y0     := 0
  x1     := 0
  y1     := 0
  stream := false
  remain := 0
  cx     := 0
  cy     := 0
  ox     := 0
  row    := 0
  col    := 0
  chunk  := List.replicate chunkSize 0
  rstN   := true
  dc     := false
  csN    := true
  bl     := false

/-- The state after reset of the instance `c` (`70_reset_and_hazards.md` R300, `10_state.md` R45). -/
def State.resetWith (c : Config) : State where
  cfg  := c
  tick := 0
  busy := false
  sws  := Sws.reset
  cbs  := Cbs.reset
  dsp  := Dsp.reset c.dsChunk
  env  := { port := [], line := [], i2c := [], spi := [], draws := 0 }
  obs  := { events := [], responses := [] }

/-- The state after reset, of the default instance (log 2, log 3). -/
def State.reset : State := State.resetWith Config.default

end Sys2Proof.Machine
end

