-- ==== Sys2Proof/Machine/Datapath.lean ====
section
/-! DEFINITION. The fixed-point datapath of CBS: the operators of `00_scope.md` R11 are `BitVec 64`'s add, sub, mul, shift left,
arithmetic shift right and signed division; `CompT` (`41_bus_sensor.md` R178), `CompP` (R179, R180), `ALT_FN` (R182). -/

namespace Sys2Proof.Machine

/-- `a >>64 n`: the arithmetic shift, a floor (`00_scope.md` R11). -/
def sar64 (a : Quad) (n : Nat) : Quad := a.sshiftRight n

/-- `a /64 b`: signed, truncating toward zero; −2^63 / −1 is −2^63 (`00_scope.md` R11, `41_bus_sensor.md` R181). -/
def div64 (a b : Quad) : Quad := a.sdiv b

/-- `CompT`: the fine temperature of a raw value (`41_bus_sensor.md` R178), 64 bits. -/
def fineTemp (adc : BitVec 20) (c : Coeffs) : Quad :=
  let adc64 := adc.setWidth 64
  let t1 := c.t1.setWidth 64
  let t2 := c.t2.signExtend 64
  let t3 := c.t3.signExtend 64
  let a := sar64 adc64 3 - (t1 <<< 1)
  let v1 := sar64 (a * t2) 11
  let b := sar64 adc64 4 - t1
  let v2 := sar64 (sar64 (b * b) 12 * t3) 14
  v1 + v2

/-- `CompT`: `(t_fine[31:0], T[31:0])` (`41_bus_sensor.md` R178). -/
def compT (adc : BitVec 20) (c : Coeffs) : Word × Word :=
  let tFine := fineTemp adc c
  (tFine.setWidth 32, (sar64 (tFine * 5 + 128) 8).setWidth 32)

/-- The denominator d of `CompP` (`41_bus_sensor.md` R179, R180). -/
def pressDenom (tf : Word) (k : Coeffs) : Quad :=
  let a := tf.signExtend 64 - 128000
  let c := sar64 (a * a * k.p3.signExtend 64) 8 + ((a * k.p2.signExtend 64) <<< 12)
  sar64 (((1#64 <<< 47) + c) * k.p1.setWidth 64) 33

/-- `CompP`: the pressure, or none where the denominator is zero (`41_bus_sensor.md` R179, R180). -/
def compP (adc : BitVec 20) (tf : Word) (k : Coeffs) : Option Word :=
  let a := tf.signExtend 64 - 128000
  let b := a * a * k.p6.signExtend 64
  let b := b + ((a * k.p5.signExtend 64) <<< 17)
  let b := b + (k.p4.signExtend 64 <<< 35)
  let d := pressDenom tf k
  if d = 0 then none
  else
    let p := 1048576 - adc.setWidth 64
    let q := div64 (((p <<< 31) - b) * 3125) d
    let e := sar64 (k.p9.signExtend 64 * sar64 q 13 * sar64 q 13) 25
    let f := sar64 (k.p8.signExtend 64 * q) 19
    let r := sar64 (q + e + f) 8 + (k.p7.signExtend 64 <<< 4)
    some (r.setWidth 32)

/-! ## Altitude

`41_bus_sensor.md` R182 bounds the result by the real formula 100·44330·(1 − (p/p0)^(1/5.255)), and 1/5.255 = 200/1051. With
X = 4433000·(p/p0)^(200/1051), a natural y is at most X exactly when y^1051·p0^200 ≤ 4433000^1051·p^200, so the bound is a test on
naturals. -/

/-- 100 · 44330. -/
def altScale : Nat := 4433000

/-- y ≤ X. -/
def altAtMost (p p0 : Word) (y : Nat) : Bool :=
  decide (y ^ 1051 * p0.toNat ^ 200 ≤ altScale ^ 1051 * p.toNat ^ 200)

/-- X ≤ y. -/
def altAtLeast (p p0 : Word) (y : Nat) : Bool :=
  decide (altScale ^ 1051 * p.toNat ^ 200 ≤ y ^ 1051 * p0.toNat ^ 200)

/-- A is within `tol` of the real value, which is 4433000 − X (`41_bus_sensor.md` R182 (b)). -/
def altAdmissible (tol : Nat) (p p0 : Word) (A : Int) : Bool :=
  altAtMost p p0 ((altScale : Int) - A - tol).toNat
    && (decide (0 ≤ (altScale : Int) - A + tol) && altAtLeast p p0 ((altScale : Int) - A + tol).toNat)

/-- The greatest y below 2^n + `base` with y ≤ X, bit by bit from `base`, where `base` ≤ X. -/
def altFloorFrom (p p0 : Word) : Nat → Nat → Nat
  | 0, base => base
  | n + 1, base => altFloorFrom p p0 n (if altAtMost p p0 (base + 2 ^ n) then base + 2 ^ n else base)

/-- ⌊X⌋: X is below 2^29 for 32-bit operands. -/
def altFloor (p p0 : Word) : Nat := altFloorFrom p p0 29 0

/-- `ALT_FN(p, p0)`: the implementation's own value wherever that is within the tolerance, 0 for p = p0 (`41_bus_sensor.md`
R182; log 10). -/
def altFn (c : Config) (p p0 : Word) : Word :=
  if p = p0 then 0
  else if altAdmissible c.cbAltTol p p0 (Config.altRaw p p0).toInt then Config.altRaw p p0
  else BitVec.ofInt 32 ((altScale : Int) - altFloor p p0)

end Sys2Proof.Machine
end

