-- ==== Sys2Proof/WellFormed.lean ====
section
/-! DEFINITION. Which instructions are well formed, which are host commands, which are present. -/

namespace Sys2Proof

/-- The instruction's operands fit its format: a text has at most 255 characters (`30_encoding.md` R102, format T). Every other
operand has the width of its field by its type. -/
def Instr.wellFormed : Instr → Bool
  | .dsDrawText _ _ _ _ _ text => decide (text.length ≤ 255)
  | .swMeasure | .swTemperature | .swHumidity | .cbNew _ | .cbRead | .cbAltitude _ _ | .dsNew | .dsSetWindow _ _ _ _
  | .dsFillRect _ _ _ _ _ | .dsPixel _ _ _ | .dsPush _ => true
  | .dsOpSwreset | .dsOpSlpout | .dsOpMadctl | .dsOpColmod | .dsOpPorctrl | .dsOpGctrl | .dsOpVcoms | .dsOpLcmctrl
  | .dsOpPwr1 | .dsOpPwr2 | .dsOpPwr3 | .dsOpFrctrl | .dsOpPvgam | .dsOpNvgam | .dsOpInvon | .dsOpDispon
  | .dsOpCaset _ _ | .dsOpRaset _ _ | .dsOpRamwr => true

/-- The instruction is one of the twelve host commands, which the command port decodes (`30_encoding.md` R104). -/
def Instr.isCommand : Instr → Bool
  | .swMeasure | .swTemperature | .swHumidity | .cbNew _ | .cbRead | .cbAltitude _ _ | .dsNew | .dsSetWindow _ _ _ _
  | .dsFillRect _ _ _ _ _ | .dsPixel _ _ _ | .dsDrawText _ _ _ _ _ _ | .dsPush _ => true
  | .dsOpSwreset | .dsOpSlpout | .dsOpMadctl | .dsOpColmod | .dsOpPorctrl | .dsOpGctrl | .dsOpVcoms | .dsOpLcmctrl
  | .dsOpPwr1 | .dsOpPwr2 | .dsOpPwr3 | .dsOpFrctrl | .dsOpPvgam | .dsOpNvgam | .dsOpInvon | .dsOpDispon
  | .dsOpCaset _ _ | .dsOpRaset _ _ | .dsOpRamwr => false

/-- The instruction exists on this instance: `CB_ALTITUDE` only where `CB_HAS_ALTITUDE` is true (`30_encoding.md` R105 (d)). -/
def Instr.present (hasAltitude : Bool) : Instr → Bool
  | .cbAltitude _ _ => hasAltitude
  | .swMeasure | .swTemperature | .swHumidity | .cbNew _ | .cbRead | .dsNew | .dsSetWindow _ _ _ _
  | .dsFillRect _ _ _ _ _ | .dsPixel _ _ _ | .dsDrawText _ _ _ _ _ _ | .dsPush _ => true
  | .dsOpSwreset | .dsOpSlpout | .dsOpMadctl | .dsOpColmod | .dsOpPorctrl | .dsOpGctrl | .dsOpVcoms | .dsOpLcmctrl
  | .dsOpPwr1 | .dsOpPwr2 | .dsOpPwr3 | .dsOpFrctrl | .dsOpPvgam | .dsOpNvgam | .dsOpInvon | .dsOpDispon
  | .dsOpCaset _ _ | .dsOpRaset _ _ | .dsOpRamwr => true

end Sys2Proof
end

