-- ==== Sys2Proof/Decode.lean ====
section
/-! DEFINITION. The two encoding layers of `30_encoding.md`: the host's command packets (decoded by the command port) and the
display wire commands (sent by the DSP sequencer, never decoded by the block). Decoders are total; encoders follow them. -/

namespace Sys2Proof

/-! ## Byte order (`20_memory.md` R74, `30_encoding.md` R103) -/

/-- A big-endian u16: `{hi, lo}`. -/
def be16 (hi lo : Byte) : Half := hi ++ lo

/-- A big-endian u32: `{a, b, c, d}`. -/
def be32 (a b c d : Byte) : Word := be16 a b ++ be16 c d

/-- The two bytes of a 16-bit value, high byte first. -/
def bytes16 (v : Half) : List Byte := [v.extractLsb' 8 8, v.extractLsb' 0 8]

/-- The four bytes of a 32-bit value, high byte first. -/
def bytes32 (v : Word) : List Byte :=
  [v.extractLsb' 24 8, v.extractLsb' 16 8, v.extractLsb' 8 8, v.extractLsb' 0 8]

/-- The four parameter bytes of a bound pair (`30_encoding.md` R112). -/
def boundBytes (lo hi : Half) : List Byte := bytes16 lo ++ bytes16 hi

/-! ## The host layer -/

/-- Why a packet is illegal (`30_encoding.md` R105). -/
inductive Illegal where
  /-- No bytes: not a packet (R100). -/
  | emptyPacket
  /-- Byte 0 is not one of the twelve opcodes: R105 (a). -/
  | unknownOpcode
  /-- The length is not the length of the format: R105 (b). -/
  | wrongLength
  /-- A must-be-zero bit is 1: R105 (c). -/
  | reservedBit
  /-- `CB_ALTITUDE` on an instance without it: R105 (d). -/
  | absentOperation
  deriving DecidableEq, Repr

/-- What the command port's decoder answers. -/
inductive Decoded where
  /-- A legal packet. -/
  | ok (i : Instr)
  /-- An illegal packet, answered `[ILLEGAL]`. -/
  | illegal (why : Illegal)
  deriving DecidableEq, Repr

/-- Format N: the opcode alone (`30_encoding.md` R102). -/
def decodeN (i : Instr) : List Byte → Decoded
  | [] => .ok i
  | _ => .illegal .wrongLength

/-- Format A: bit 7 of the address byte must be 0. -/
def decodeA (f : BitVec 7 → Instr) : List Byte → Decoded
  | [a] => if a.getLsbD 7 then .illegal .reservedBit else .ok (f (a.extractLsb' 0 7))
  | _ => .illegal .wrongLength

/-- Format Q: two u32. -/
def decodeQ (f : Word → Word → Instr) : List Byte → Decoded
  | [a, b, c, d, e, g, h, i] => .ok (f (be32 a b c d) (be32 e g h i))
  | _ => .illegal .wrongLength

/-- Format W: four u16. -/
def decodeW (f : Half → Half → Half → Half → Instr) : List Byte → Decoded
  | [a, b, c, d, e, g, h, i] => .ok (f (be16 a b) (be16 c d) (be16 e g) (be16 h i))
  | _ => .illegal .wrongLength

/-- Format R: five u16. -/
def decodeR (f : Half → Half → Half → Half → Half → Instr) : List Byte → Decoded
  | [a, b, c, d, e, g, h, i, j, k] => .ok (f (be16 a b) (be16 c d) (be16 e g) (be16 h i) (be16 j k))
  | _ => .illegal .wrongLength

/-- Format P: three u16. -/
def decodeP (f : Half → Half → Half → Instr) : List Byte → Decoded
  | [a, b, c, d, e, g] => .ok (f (be16 a b) (be16 c d) (be16 e g))
  | _ => .illegal .wrongLength

/-- Format C: one u16. -/
def decodeC (f : Half → Instr) : List Byte → Decoded
  | [a, b] => .ok (f (be16 a b))
  | _ => .illegal .wrongLength

/-- Format T: x, y, color, flags (bits 7:1 must be 0), bg, len, and exactly len text bytes. -/
def decodeT (f : Half → Half → Half → Bool → Half → List Byte → Instr) : List Byte → Decoded
  | a :: b :: c :: d :: e :: g :: flags :: h :: i :: len :: text =>
    if text.length = len.toNat then
      if flags.extractLsb' 1 7 = 0#7 then
        .ok (f (be16 a b) (be16 c d) (be16 e g) (flags.getLsbD 0) (be16 h i) text)
      else .illegal .reservedBit
    else .illegal .wrongLength
  | _ => .illegal .wrongLength

/-- The command port's decoder (`30_encoding.md` R102 to R106). -/
def decode (hasAltitude : Bool) : List Byte → Decoded
  | [] => .illegal .emptyPacket
  | op :: rest =>
    if op = 0x10#8 then decodeN .swMeasure rest
    else if op = 0x11#8 then decodeN .swTemperature rest
    else if op = 0x12#8 then decodeN .swHumidity rest
    else if op = 0x20#8 then decodeA .cbNew rest
    else if op = 0x21#8 then decodeN .cbRead rest
    else if op = 0x22#8 then
      if hasAltitude then decodeQ .cbAltitude rest else .illegal .absentOperation
    else if op = 0x30#8 then decodeN .dsNew rest
    else if op = 0x31#8 then decodeW .dsSetWindow rest
    else if op = 0x32#8 then decodeR .dsFillRect rest
    else if op = 0x33#8 then decodeP .dsPixel rest
    else if op = 0x34#8 then decodeT .dsDrawText rest
    else if op = 0x35#8 then decodeC .dsPush rest
    else .illegal .unknownOpcode

/-! ## The wire layer: display commands -/

/-- The command that entry k of `DS_INIT_SEQ` sends, in the order of `42_display.md` R203 to R218. -/
def initInstrs : Vector Instr 16 := #v[
  .dsOpSwreset, .dsOpSlpout, .dsOpMadctl, .dsOpColmod, .dsOpPorctrl, .dsOpGctrl, .dsOpVcoms, .dsOpLcmctrl,
  .dsOpPwr1, .dsOpPwr2, .dsOpPwr3, .dsOpFrctrl, .dsOpPvgam, .dsOpNvgam, .dsOpInvon, .dsOpDispon]

/-- A reader of the display bus: which wire command an opcode and its parameter bytes are. An opcode of the initialization
table names its entry (the parameter bytes are the table's); the address commands carry a bound pair (R112). -/
def decodeWire (c : Config) (op : Byte) (params : List Byte) : Option Instr :=
  if op = c.dsOpCaset then
    match params with
    | [a, b, d, e] => some (.dsOpCaset (be16 a b) (be16 d e))
    | _ => none
  else if op = c.dsOpRaset then
    match params with
    | [a, b, d, e] => some (.dsOpRaset (be16 a b) (be16 d e))
    | _ => none
  else if op = c.dsOpRamwr then some .dsOpRamwr
  else ((List.finRange 16).find? fun k => c.dsInitSeq[k].op == op).map fun k => initInstrs[k]

/-! ## The opcode table's words -/

/-- Byte k of a table word: bits 8k+7 .. 8k. -/
def tableByte (w k : Nat) : Byte := BitVec.ofNat 8 (w >>> (8 * k))

/-- The length of a packet from byte 0 and, for format T, byte 10 (`30_encoding.md` R106); one byte for an unknown opcode. -/
def packetLength (op len : Byte) : Nat :=
  if op = 0x20#8 then 2
  else if op = 0x22#8 then 9
  else if op = 0x31#8 then 9
  else if op = 0x32#8 then 11
  else if op = 0x33#8 then 7
  else if op = 0x34#8 then 11 + len.toNat
  else if op = 0x35#8 then 3
  else 1

/-- The packet a table word stands for: the bytes the table gives, and zero bytes up to the length of its format. -/
def tablePacket (nbits w : Nat) : List Byte :=
  (List.range (max (nbits / 8) (packetLength (tableByte w 0) (tableByte w 10)))).map (tableByte w)

/-- What the decoders read from a word of the opcode table: the host layer first (the port's decoder, on an instance that has
`CB_ALTITUDE`), and where the port has no such packet, the wire layer with the default opcodes (log 7). -/
def decodeTableWord (nbits w : Nat) : Option Instr :=
  match decode true (tablePacket nbits w) with
  | .ok i => some i
  | .illegal _ =>
    decodeWire Config.default (tableByte w 0) [tableByte w 1, tableByte w 2, tableByte w 3, tableByte w 4]

/-! ## Encoders -/

/-- The packet of a host command (`30_encoding.md` R102, R104); no bytes for a wire command, which no packet carries. -/
def encode : Instr → List Byte
  | .swMeasure => [0x10]
  | .swTemperature => [0x11]
  | .swHumidity => [0x12]
  | .cbNew addr => [0x20, addr.setWidth 8]
  | .cbRead => [0x21]
  | .cbAltitude p p0 => [0x22] ++ bytes32 p ++ bytes32 p0
  | .dsNew => [0x30]
  | .dsSetWindow x0 y0 x1 y1 => [0x31] ++ bytes16 x0 ++ bytes16 y0 ++ bytes16 x1 ++ bytes16 y1
  | .dsFillRect x y w h color => [0x32] ++ bytes16 x ++ bytes16 y ++ bytes16 w ++ bytes16 h ++ bytes16 color
  | .dsPixel x y color => [0x33] ++ bytes16 x ++ bytes16 y ++ bytes16 color
  | .dsDrawText x y color hasBg bg text =>
    [0x34] ++ bytes16 x ++ bytes16 y ++ bytes16 color ++ [if hasBg then 1 else 0] ++ bytes16 bg
      ++ [BitVec.ofNat 8 text.length] ++ text
  | .dsPush color => [0x35] ++ bytes16 color
  | .dsOpSwreset | .dsOpSlpout | .dsOpMadctl | .dsOpColmod | .dsOpPorctrl | .dsOpGctrl | .dsOpVcoms | .dsOpLcmctrl
  | .dsOpPwr1 | .dsOpPwr2 | .dsOpPwr3 | .dsOpFrctrl | .dsOpPvgam | .dsOpNvgam | .dsOpInvon | .dsOpDispon
  | .dsOpCaset _ _ | .dsOpRaset _ _ | .dsOpRamwr => []

/-- Entry k of the table as a wire transfer. -/
def entryTransfer (c : Config) (k : Fin 16) : Option (Byte × List Byte) :=
  some (c.dsInitSeq[k].op, c.dsInitSeq[k].data)

/-- The command byte and the parameter bytes of a wire command (`30_encoding.md` R111); none for a host command. -/
def encodeWire (c : Config) : Instr → Option (Byte × List Byte)
  | .dsOpSwreset => entryTransfer c 0
  | .dsOpSlpout => entryTransfer c 1
  | .dsOpMadctl => entryTransfer c 2
  | .dsOpColmod => entryTransfer c 3
  | .dsOpPorctrl => entryTransfer c 4
  | .dsOpGctrl => entryTransfer c 5
  | .dsOpVcoms => entryTransfer c 6
  | .dsOpLcmctrl => entryTransfer c 7
  | .dsOpPwr1 => entryTransfer c 8
  | .dsOpPwr2 => entryTransfer c 9
  | .dsOpPwr3 => entryTransfer c 10
  | .dsOpFrctrl => entryTransfer c 11
  | .dsOpPvgam => entryTransfer c 12
  | .dsOpNvgam => entryTransfer c 13
  | .dsOpInvon => entryTransfer c 14
  | .dsOpDispon => entryTransfer c 15
  | .dsOpCaset x0 x1 => some (c.dsOpCaset, boundBytes x0 x1)
  | .dsOpRaset y0 y1 => some (c.dsOpRaset, boundBytes y0 y1)
  | .dsOpRamwr => some (c.dsOpRamwr, [])
  | .swMeasure | .swTemperature | .swHumidity | .cbNew _ | .cbRead | .cbAltitude _ _ | .dsNew | .dsSetWindow _ _ _ _
  | .dsFillRect _ _ _ _ _ | .dsPixel _ _ _ | .dsDrawText _ _ _ _ _ _ | .dsPush _ => none

end Sys2Proof
end

