-- ==== Sys2Proof/Machine/Operands.lean ====
section
/-! DEFINITION. Operand assembly of the wire layer (`30_encoding.md` R107, R109, R110, R112 to R114) and of responses. -/

namespace Sys2Proof.Machine

/-- Bit n of a byte takes the value v. -/
def writeBit (b : Byte) (n : Nat) (v : Bool) : Byte :=
  if v then b ||| (1#8 <<< n) else b &&& ~~~(1#8 <<< n)

/-- Bit i of the frame goes to bit 7 − (i mod 8) of byte i div 8 (`30_encoding.md` R107, `40_single_wire.md` R145). -/
def storeFrameBit (buf : Vector Byte 5) (i : Nat) (v : Bool) : Vector Byte 5 :=
  buf.setIfInBounds (i / 8) (writeBit (buf.getD (i / 8) 0) (7 - i % 8) v)

/-- Raw ADC assembly: `{b[0], b[1], b[2][7:4]}` (`30_encoding.md` R109). -/
def adcOf (b0 b1 b2 : Byte) : BitVec 20 := (b0 ++ b1) ++ b2.extractLsb' 4 4

/-- The raw value of a three-byte burst. -/
def adcOfBurst (b : List Byte) : BitVec 20 := adcOf (b.getD 0 0) (b.getD 1 0) (b.getD 2 0)

/-- Coefficient j of the calibration block, little-endian (`30_encoding.md` R110). -/
def coeffOf (c : List Byte) (j : Nat) : Half := be16 (c.getD (2 * j + 1) 0) (c.getD (2 * j) 0)

/-- The coefficient file of the calibration block, in the order T1, T2, T3, P1, ..., P9 (`41_bus_sensor.md` R173). -/
def coeffsOf (c : List Byte) : Coeffs where
  t1 := coeffOf c 0
  t2 := coeffOf c 1
  t3 := coeffOf c 2
  p1 := coeffOf c 3
  p2 := coeffOf c 4
  p3 := coeffOf c 5
  p4 := coeffOf c 6
  p5 := coeffOf c 7
  p6 := coeffOf c 8
  p7 := coeffOf c 9
  p8 := coeffOf c 10
  p9 := coeffOf c 11

/-- The two bytes of a pixel, high byte first (`30_encoding.md` R113). -/
def pixelBytes (color : Half) : List Byte := bytes16 color

/-- A character selects a glyph only in 32..126 (`30_encoding.md` R114). -/
def printable (ch : Byte) : Bool := decide (32 ≤ ch.toNat ∧ ch.toNat ≤ 126)

/-- The glyph index of a printable character (`30_encoding.md` R114). -/
def glyphIndex (ch : Byte) : Nat := ch.toNat - 32

/-- `DS_FONT[g][row][col]` (`20_memory.md` R72). -/
def fontBit (c : Config) (g row col : Nat) : Bool := (c.dsFont.getD g 0).getLsbD (8 * row + col)

/-- The payload of `CB_READ`: `CB_T` then `CB_P`, big-endian (`41_bus_sensor.md` R176). -/
def readPayload (s : State) : List Byte := bytes32 s.cbs.t ++ bytes32 s.cbs.p

end Sys2Proof.Machine
end

