-- ==== Sys2Proof/Machine/Ops.lean ====
section
/-! DEFINITION. The primitives every operation is written in (`20_memory.md` R60 to R65), the response and the error
(`60_exceptions.md` R268), and the checked transfers of the display (`42_display.md` R200). -/

namespace Sys2Proof.Machine

/-! ## Sequencing: a statement that may fail -/

/-- The outcome of a statement of the pseudocode: it completed, or it was `fail e` (`00_scope.md` R12). -/
inductive Run where
  | ok (s : State)
  | err (e : Status) (s : State)
  deriving DecidableEq, Repr

/-- The next statement runs only if the one before completed (`60_exceptions.md` R268 (1), R271). -/
def Run.andThen (r : Run) (f : State → Run) : Run :=
  match r with
  | .ok s => f s
  | .err e s => .err e s

/-! ## Time and history -/

/-- n ticks pass: `TICK_CNT` counts them modulo 2^64 (`10_state.md` R21). -/
def State.tickBy (n : Nat) (s : State) : State := { s with tick := s.tick + BitVec.ofNat 64 n }

/-- Record one event (`20_memory.md` R82). -/
def State.log (e : Event) (s : State) : State := { s with obs := { s.obs with events := e :: s.obs.events } }

/-- `Delay(n)` (`20_memory.md` R65). -/
def delay (n : Nat) (s : State) : State := (s.tickBy n).log (.delay n)

/-! ## Sequencer labels (`10_state.md` R22) -/

/-- `SW_SEQ <- q`. -/
def State.swAt (q : SwSeq) (s : State) : State := { s with sws := { s.sws with seq := q } }

/-- `CB_SEQ <- q`. -/
def State.cbAt (q : CbSeq) (s : State) : State := { s with cbs := { s.cbs with seq := q } }

/-- `DS_SEQ <- q`. -/
def State.dsAt (q : DsSeq) (s : State) : State := { s with dsp := { s.dsp with seq := q } }

/-- The unit's sequencer goes to `IDLE`. -/
def State.idle (u : BlockUnit) (s : State) : State :=
  match u with
  | .sws => s.swAt .idle
  | .cbs => s.cbAt .idle
  | .dsp => s.dsAt .idle

/-! ## Responses and errors -/

/-- The number of a status (`60_exceptions.md` R260). -/
def Status.code : Status → Byte
  | .ok => 0
  | .timeoutError => 1
  | .checksumError => 2
  | .deviceNotFoundError => 3
  | .busError => 4
  | .boundsError => 5
  | .notReadyError => 6
  | .compensationError => 7
  | .illegal => 8

/-- Give a response packet; the operation ends and `BUSY` is cleared (`30_encoding.md` R100, R101). -/
def State.answer (r : List Byte) (s : State) : State :=
  { s with busy := false, obs := { s.obs with responses := r :: s.obs.responses } }

/-- `respond OK, payload`: the unit's sequencer returns to `IDLE` (`00_scope.md` R12, `10_state.md` R22). -/
def State.respond (u : BlockUnit) (payload : List Byte) (s : State) : State :=
  (s.idle u).answer (Status.ok.code :: payload)

/-- `fail e`, which is how this hardware takes an exception (`60_exceptions.md` R268): the line is released, the unit's sequencer
goes to `IDLE`, `BUSY` is cleared, the response is the one byte of the code; nothing is rolled back. There is no return from
it (R270). -/
def State.fail (u : BlockUnit) (e : Status) (s : State) : State :=
  (({ s with sws := { s.sws with oe := false } } : State).idle u).answer [e.code]

/-- The end of a statement at a label: completed, the operation goes on as `next` says; failed, it has ended (`10_state.md` R22,
`60_exceptions.md` R268). -/
def Run.goOn (u : BlockUnit) (next : State → State) : Run → State
  | .ok s => next s
  | .err e s => s.fail u e

/-- The end of an operation: `respond OK` with the payload read off the final state, or `fail`. -/
def Run.finish (u : BlockUnit) (payload : State → List Byte) (r : Run) : State :=
  r.goOn u fun s => s.respond u (payload s)

/-- No payload. -/
def noPayload (_ : State) : List Byte := []

/-! ## The single-wire line (`20_memory.md` R60) -/

/-- `LineDrive(v)`. -/
def lineDrive (v : Bool) (s : State) : State :=
  ({ s with sws := { s.sws with oe := true, out := v } } : State).log (.lineDrive v)

/-- `LineRelease()`. -/
def lineRelease (s : State) : State :=
  ({ s with sws := { s.sws with oe := false } } : State).log .lineRelease

/-- The environment's next level of the released line (`20_memory.md` R66; log 5). -/
def State.nextLevel (s : State) : Bool × State :=
  match s.env.line with
  | v :: rest => (v, { s with env := { s.env with line := rest } })
  | [] => (Config.lineLevel s.env.draws, { s with env := { s.env with draws := s.env.draws + 1 } })

/-- `LineSample()`: the level at the current tick, then one tick passes. -/
def lineSample (s : State) : Bool × State :=
  (s.nextLevel.1, (s.nextLevel.2.tickBy 1).log (.lineSample s.nextLevel.1))

/-! ## The sensor bus (`20_memory.md` R61, R62) -/

/-- The responder's next answer (`20_memory.md` R67; log 5). -/
def State.nextI2c (s : State) : I2cAnswer × State :=
  match s.env.i2c with
  | a :: rest => (a, { s with env := { s.env with i2c := rest, draws := s.env.draws + 1 } })
  | [] => ({ ticks := Config.busTicks s.env.draws, ack := Config.busAck s.env.draws, bytes := [] },
      { s with env := { s.env with draws := s.env.draws + 1 } })

/-- The n bytes of an acknowledged read: those the answer gives, in order; a byte it does not give is free (log 16). -/
def readBytes (draw n : Nat) (given : List Byte) : List Byte :=
  (List.range n).map fun k => given.getD k (Config.busByte draw k)

/-- `I2cRead(a, reg, n)`: n bytes, or none for `nack`. -/
def i2cRead (a : BitVec 7) (reg : Byte) (n : Nat) (s : State) : Option (List Byte) × State :=
  let answer := s.nextI2c.1
  let result := if answer.ack then some (readBytes s.env.draws n answer.bytes) else none
  (result, (s.nextI2c.2.tickBy answer.ticks).log (.i2cRead a reg n result))

/-- `I2cWrite(a, reg, bytes)`: acknowledged or not. -/
def i2cWrite (a : BitVec 7) (reg : Byte) (bytes : List Byte) (s : State) : Bool × State :=
  let answer := s.nextI2c.1
  (answer.ack, (s.nextI2c.2.tickBy answer.ticks).log (.i2cWrite a reg bytes answer.ack))

/-! ## The display bus (`20_memory.md` R63, R64) -/

/-- The sink's next answer (`20_memory.md` R68; log 5). -/
def State.nextSpi (s : State) : SpiAnswer × State :=
  match s.env.spi with
  | a :: rest => (a, { s with env := { s.env with spi := rest } })
  | [] => ({ ticks := Config.busTicks s.env.draws, ok := Config.busAck s.env.draws },
      { s with env := { s.env with draws := s.env.draws + 1 } })

/-- `if DS_HAS_CS: DS_CS_N <- v`. -/
def chipSelect (v : Bool) (s : State) : State :=
  if s.cfg.dsHasCs then { s with dsp := { s.dsp with csN := v } } else s

/-- One transfer with the data/command line at `dc`: the line is set first, chip select frames the transfer (R63, R310, C8). -/
def spiTransfer (dc : Bool) (event : Bool → Event) (s : State) : Bool × State :=
  let framed := chipSelect false { s with dsp := { s.dsp with dc := dc } }
  let answer := framed.nextSpi.1
  (answer.ok, chipSelect true ((framed.nextSpi.2.tickBy answer.ticks).log (event answer.ok)))

/-- `SpiCmd(b)`. -/
def spiCmd (b : Byte) (s : State) : Bool × State := spiTransfer false (.spiCmd b) s

/-- `SpiData(bytes)`. -/
def spiData (bytes : List Byte) (s : State) : Bool × State := spiTransfer true (.spiData bytes) s

/-- A failed transfer drops the streaming state (`42_display.md` R200). -/
def dropStream (s : State) : State :=
  { s with dsp := { s.dsp with stream := false, remain := 0 } }

/-- The checked form of a transfer (`42_display.md` R200). -/
def checked (r : Bool × State) : Run :=
  if r.1 then .ok r.2 else .err .busError (dropStream r.2)

/-- `Cmd(b)` (`42_display.md` R200). -/
def dsCmd (b : Byte) (s : State) : Run := checked (spiCmd b s)

/-- `Data(bytes)` (`42_display.md` R200). -/
def dsData (bytes : List Byte) (s : State) : Run := checked (spiData bytes s)

/-- `DS_RST_N <- v`, an event (`20_memory.md` R82). -/
def setRstN (v : Bool) (s : State) : State :=
  ({ s with dsp := { s.dsp with rstN := v } } : State).log (.pin .rstN v)

/-- `DS_BL <- v`, an event (`20_memory.md` R82). -/
def setBl (v : Bool) (s : State) : State :=
  ({ s with dsp := { s.dsp with bl := v } } : State).log (.pin .bl v)

/-! ## The command port (`30_encoding.md` R100, `70_reset_and_hazards.md` R316) -/

/-- The host's moves after this one. -/
def State.withPort (moves : List HostMove) (s : State) : State := { s with env := { s.env with port := moves } }

/-- A command is accepted: `BUSY` is 1 until the response (`10_state.md` R23). -/
def State.accept (s : State) : State := { s with busy := true }

/-- What becomes of a packet presented while `BUSY` = 1: it is not accepted, not queued and not answered
(`10_state.md` R23, `70_reset_and_hazards.md` R304). -/
def State.ignorePacket (s : State) : State :=
  match s.env.port with
  | .packet _ _ :: rest => s.withPort rest
  | _ => s

end Sys2Proof.Machine
end

