-- ==== Sys2Proof/Machine/BusSensor.lean ====
section
/-! DEFINITION. CBS: `CB_NEW`, `CB_READ`, `CB_ALTITUDE` (`41_bus_sensor.md`), and the sequencer of the first two, statement by
statement (`10_state.md` R22). -/

namespace Sys2Proof.Machine

/-! ## CB_NEW -/

/-- `alt(addr)`: the second address probed (`41_bus_sensor.md` R170). -/
def altAddr (c : Config) (addr : BitVec 7) : BitVec 7 :=
  if addr = c.cbAddrA then c.cbAddrB else c.cbAddrA

/-- `ENTRY`: `CB_READY <- 0; CB_RVALID <- 0` (`41_bus_sensor.md` R171). -/
def cbEntry (addr : BitVec 7) (s : State) : State :=
  { s with cbs := { s.cbs with seq := .entry addr, ready := false, rvalid := false } }

/-- `cand[j]` (`41_bus_sensor.md` R170, R171). -/
def candidate (c : Config) (addr : BitVec 7) (second : Bool) : BitVec 7 := if second then altAddr c addr else addr

/-- One probe: it matches only if the read is acknowledged and its byte is `CB_ID_EXPECT` (`41_bus_sensor.md` R172). -/
def probe (addr : BitVec 7) (second : Bool) (s : State) : Bool × State :=
  let r := i2cRead (candidate s.cfg addr second) s.cfg.cbRegId 1 (s.cbAt (.probe addr second))
  (decide (r.1 = some [s.cfg.cbIdExpect]), r.2)

/-- `CB_ADDR` and the coefficients after a failure at `CALIB` or `CONFIG` hold unspecified values: free ones
(`41_bus_sensor.md` R171, U6; log 9). -/
def loseInstance (s : State) : State :=
  let d := s.env.draws
  { s with
    cbs := { s.cbs with
      addr := Config.lostAddr d
      coef := {
        t1 := Config.lostCoeff d 0, t2 := Config.lostCoeff d 1, t3 := Config.lostCoeff d 2
        p1 := Config.lostCoeff d 3, p2 := Config.lostCoeff d 4, p3 := Config.lostCoeff d 5
        p4 := Config.lostCoeff d 6, p5 := Config.lostCoeff d 7, p6 := Config.lostCoeff d 8
        p7 := Config.lostCoeff d 9, p8 := Config.lostCoeff d 10, p9 := Config.lostCoeff d 11 } }
    env := { s.env with draws := d + 1 } }

/-- Load the twelve coefficients from the burst (`41_bus_sensor.md` R173). -/
def loadCoeffs (bytes : List Byte) (s : State) : State :=
  { s with cbs := { s.cbs with coef := coeffsOf bytes } }

/-- `CALIB` (`41_bus_sensor.md` R171). -/
def cbCalib (found : BitVec 7) (s : State) : Run :=
  let r := i2cRead found s.cfg.cbRegCalib Config.calibLen (s.cbAt (.calib found))
  match r.1 with
  | none => .err .busError (loseInstance r.2)
  | some bytes => .ok (loadCoeffs bytes r.2)

/-- `CONFIG`: the one configuration write (`41_bus_sensor.md` R175). -/
def cbConfig (found : BitVec 7) (s : State) : Run :=
  let r := i2cWrite found s.cfg.cbRegCtrl [s.cfg.cbCtrlValue] (s.cbAt (.config found))
  if r.1 then .ok r.2 else .err .busError (loseInstance r.2)

/-- `DONE`: `CB_ADDR <- found; CB_READY <- 1`. -/
def cbDone (found : BitVec 7) (s : State) : State :=
  { s with cbs := { s.cbs with seq := .newDone found, addr := found, ready := true } }

/-- `CALIB`, `CONFIG`, `DONE` with the address found. -/
def cbBuild (found : BitVec 7) (s : State) : Run :=
  ((cbCalib found s).andThen (cbConfig found)).andThen fun s => .ok (cbDone found s)

/-- `CB_NEW addr` (`41_bus_sensor.md` R171). -/
def cbNew (addr : BitVec 7) (s : State) : Run :=
  let first := probe addr false (cbEntry addr s)
  if first.1 then cbBuild addr first.2
  else
    let second := probe addr true first.2
    if second.1 then cbBuild (altAddr s.cfg addr) second.2
    else .err .deviceNotFoundError second.2

/-- The meaning of `CB_NEW`. -/
def execCbNew (addr : BitVec 7) (s : State) : Host.Outcome State Fault Refusal :=
  .next ((cbNew addr s).finish .cbs noPayload)

/-! ## CB_READ -/

/-- `CHECK` (`41_bus_sensor.md` R176). -/
def cbCheck (s : State) : Run :=
  if s.cbs.ready then .ok (s.cbAt .check) else .err .notReadyError s

/-- `RD_T`: the temperature burst. -/
def cbReadT (s : State) : Run :=
  let r := i2cRead s.cbs.addr s.cfg.cbRegTemp 3 (s.cbAt .rdT)
  match r.1 with
  | none => .err .busError r.2
  | some b => .ok { r.2 with cbs := { r.2.cbs with adcT := adcOfBurst b } }

/-- `RD_P`: the pressure burst. -/
def cbReadP (s : State) : Run :=
  let r := i2cRead s.cbs.addr s.cfg.cbRegPress 3 (s.cbAt .rdP)
  match r.1 with
  | none => .err .busError r.2
  | some b => .ok { r.2 with cbs := { r.2.cbs with adcP := adcOfBurst b } }

/-- `COMP_T`: `CB_TFINE` is written. -/
def cbCompT (s : State) : State :=
  { s with cbs := { s.cbs with seq := .compT, tfine := (compT s.cbs.adcT s.cbs.coef).1 } }

/-- `DONE`: the reading is written (`41_bus_sensor.md` R176). -/
def cbCommit (t p : Word) (s : State) : State :=
  { s with cbs := { s.cbs with seq := .readDone t p, t := t, p := p, rvalid := true, ts := s.tick } }

/-- `COMP_P` and `DONE` (`41_bus_sensor.md` R176, R180). -/
def cbCompP (s : State) : Run :=
  match compP s.cbs.adcP s.cbs.tfine s.cbs.coef with
  | none => .err .compensationError (s.cbAt .compP)
  | some p => .ok (cbCommit (compT s.cbs.adcT s.cbs.coef).2 p s)

/-- `CB_READ` (`41_bus_sensor.md` R176). -/
def cbRead (s : State) : Run :=
  (((cbCheck s).andThen cbReadT).andThen cbReadP).andThen fun s => cbCompP (cbCompT s)

/-- The meaning of `CB_READ`. -/
def execCbRead (s : State) : Host.Outcome State Fault Refusal :=
  .next ((cbRead s).finish .cbs readPayload)

/-! ## The CBS sequencer, statement by statement (`10_state.md` R22; log 8) -/

/-- The statement at the label of `CB_SEQ`, after which the sequencer stands at the next one, or its operation has ended. -/
def cbStatement (s : State) : State :=
  match s.cbs.seq with
  | .idle => s
  | .entry addr => (cbEntry addr s).cbAt (.probe addr false)
  | .probe addr second =>
    let r := probe addr second s
    if r.1 then r.2.cbAt (.calib (candidate s.cfg addr second))
    else if second then r.2.fail .cbs .deviceNotFoundError
    else r.2.cbAt (.probe addr true)
  | .calib found => (cbCalib found s).goOn .cbs (·.cbAt (.config found))
  | .config found => (cbConfig found s).goOn .cbs (·.cbAt (.newDone found))
  | .newDone found => (cbDone found s).respond .cbs []
  | .check => (cbCheck s).goOn .cbs (·.cbAt .rdT)
  | .rdT => (cbReadT s).goOn .cbs (·.cbAt .rdP)
  | .rdP => (cbReadP s).goOn .cbs (·.cbAt .compT)
  | .compT => (cbCompT s).cbAt .compP
  | .compP =>
    match compP s.cbs.adcP s.cbs.tfine s.cbs.coef with
    | none => s.fail .cbs .compensationError
    | some p => s.cbAt (.readDone (compT s.cbs.adcT s.cbs.coef).2 p)
  | .readDone t p =>
    let s := cbCommit t p s
    s.respond .cbs (readPayload s)

/-! ## CB_ALTITUDE -/

/-- `if p0 = 0: fail CompensationError` (`41_bus_sensor.md` R182). -/
def cbAltitude (p0 : Word) (s : State) : Run :=
  if p0 = 0 then .err .compensationError s else .ok s

/-- The meaning of `CB_ALTITUDE`. -/
def execCbAltitude (p p0 : Word) (s : State) : Host.Outcome State Fault Refusal :=
  .next ((cbAltitude p0 s).finish .cbs fun s => bytes32 (altFn s.cfg p p0))

end Sys2Proof.Machine
end

