-- ==== Sys2Proof/Machine/Flags.lean ====
section
/-! DEFINITION. The conditions the operations test: there are no arithmetic flags (`10_state.md` R43). -/

namespace Sys2Proof.Machine

/-- `GateClosed`, with `Now()` the current tick (`40_single_wire.md` R140). -/
def gateClosed (s : State) : Bool :=
  s.sws.valid && decide ((s.tick - s.sws.ts).toNat < s.cfg.swMinInterval)

/-- A measured high count decodes to 1 above the threshold (`40_single_wire.md` R143). -/
def bitOf (c : Config) (count : Nat) : Bool := decide (c.swThresh < count)

/-- Byte 4 is the sum of bytes 0 to 3 modulo 256 (`40_single_wire.md` R146). -/
def checksumOk (buf : Vector Byte 5) : Bool :=
  decide (buf[4].toNat = (buf[0].toNat + buf[1].toNat + buf[2].toNat + buf[3].toNat) % 256)

/-- The invariant of a window request (`42_display.md` R220). -/
def windowOk (c : Config) (x0 y0 x1 y1 : Half) : Bool :=
  decide (x0.toNat ≤ x1.toNat ∧ x1.toNat < c.panelW ∧ y0.toNat ≤ y1.toNat ∧ y1.toNat < c.panelH)

/-- How many pixels a window takes: the inclusive area (`42_display.md` R228, C1). -/
def windowCount (x0 y0 x1 y1 : Half) : Nat :=
  (x1.toNat - x0.toNat + 1) * (y1.toNat - y0.toNat + 1)

/-- A pixel of the panel (`42_display.md` R227). -/
def onPanel (c : Config) (px py : Nat) : Bool := decide (px < c.panelW ∧ py < c.panelH)

/-- There is an open window position to write (`42_display.md` R225). -/
def streamOpen (d : Dsp) : Bool := d.stream && decide (d.remain ≠ 0)

/-- Nothing is left of a rectangle after clamping (`42_display.md` R230, R231). -/
def rectEmpty (c : Config) (x y w h : Half) : Bool :=
  decide (w = 0 ∨ h = 0 ∨ c.panelW ≤ x.toNat ∨ c.panelH ≤ y.toNat)

/-- A side of a rectangle, clamped to the panel's edge (`42_display.md` R230, R231). -/
def clampSide (origin side edge : Nat) : Nat := min side (edge - origin)

/-- The number of pixel transfers of a fill: ⌈n / chunk⌉ (`42_display.md` R232). -/
def chunkCount (n chunk : Nat) : Nat := (n + chunk - 1) / chunk

end Sys2Proof.Machine
end

