-- ==== Sys2Proof/Machine/Display.lean ====
section
/-! DEFINITION. DSP (`42_display.md`): the nineteen wire commands, the window address encoder, `DS_NEW`, `DS_SET_WINDOW`, `DS_PUSH`,
`DS_PIXEL`, the chunked fill engine, the glyph rasterizer. -/

namespace Sys2Proof.Machine

/-! ## Wire commands -/

/-- A wire command: one command transfer, then one data transfer if it has parameter bytes, then its settle delay
(`42_display.md` R201, R203 to R218; `30_encoding.md` R111). -/
def sendEntry (e : InitEntry) (s : State) : Run :=
  ((dsCmd e.op s).andThen fun s =>
    if e.data = [] then .ok s else dsData e.data s).andThen fun s => .ok (delay e.delay s)

/-- Entry k of `DS_INIT_SEQ`. -/
def sendInit (k : Fin 16) (s : State) : Run := sendEntry s.cfg.dsInitSeq[k] s

/-- column-address-set with its bounds, no delay (`42_display.md` R222). -/
def sendCaset (x0 x1 : Half) (s : State) : Run :=
  (dsCmd s.cfg.dsOpCaset s).andThen (dsData (boundBytes x0 x1))

/-- row-address-set with its bounds, no delay (`42_display.md` R223). -/
def sendRaset (y0 y1 : Half) (s : State) : Run :=
  (dsCmd s.cfg.dsOpRaset s).andThen (dsData (boundBytes y0 y1))

/-- memory-write (`42_display.md` R224). -/
def sendRamwr (s : State) : Run := dsCmd s.cfg.dsOpRamwr s

/-- A wire command is a statement of an operation: completed, the operation goes on; failed, it ends in `BusError`
(`42_display.md` R200, `60_exceptions.md` R268). -/
def Run.statement (r : Run) : State := r.goOn .dsp id

/-- The meaning of `DS_OP_SWRESET`: entry 0 (R203). -/
def execDsOpSwreset (s : State) : Host.Outcome State Fault Refusal := .next (sendInit 0 s).statement

/-- The meaning of `DS_OP_SLPOUT`: entry 1 (R204). -/
def execDsOpSlpout (s : State) : Host.Outcome State Fault Refusal := .next (sendInit 1 s).statement

/-- The meaning of `DS_OP_MADCTL`: entry 2 (R205). -/
def execDsOpMadctl (s : State) : Host.Outcome State Fault Refusal := .next (sendInit 2 s).statement

/-- The meaning of `DS_OP_COLMOD`: entry 3 (R206). -/
def execDsOpColmod (s : State) : Host.Outcome State Fault Refusal := .next (sendInit 3 s).statement

/-- The meaning of `DS_OP_PORCTRL`: entry 4 (R207). -/
def execDsOpPorctrl (s : State) : Host.Outcome State Fault Refusal := .next (sendInit 4 s).statement

/-- The meaning of `DS_OP_GCTRL`: entry 5 (R208). -/
def execDsOpGctrl (s : State) : Host.Outcome State Fault Refusal := .next (sendInit 5 s).statement

/-- The meaning of `DS_OP_VCOMS`: entry 6 (R209). -/
def execDsOpVcoms (s : State) : Host.Outcome State Fault Refusal := .next (sendInit 6 s).statement

/-- The meaning of `DS_OP_LCMCTRL`: entry 7 (R210). -/
def execDsOpLcmctrl (s : State) : Host.Outcome State Fault Refusal := .next (sendInit 7 s).statement

/-- The meaning of `DS_OP_PWR1`: entry 8 (R211). -/
def execDsOpPwr1 (s : State) : Host.Outcome State Fault Refusal := .next (sendInit 8 s).statement

/-- The meaning of `DS_OP_PWR2`: entry 9 (R212). -/
def execDsOpPwr2 (s : State) : Host.Outcome State Fault Refusal := .next (sendInit 9 s).statement

/-- The meaning of `DS_OP_PWR3`: entry 10 (R213). -/
def execDsOpPwr3 (s : State) : Host.Outcome State Fault Refusal := .next (sendInit 10 s).statement

/-- The meaning of `DS_OP_FRCTRL`: entry 11 (R214). -/
def execDsOpFrctrl (s : State) : Host.Outcome State Fault Refusal := .next (sendInit 11 s).statement

/-- The meaning of `DS_OP_PVGAM`: entry 12 (R215). -/
def execDsOpPvgam (s : State) : Host.Outcome State Fault Refusal := .next (sendInit 12 s).statement

/-- The meaning of `DS_OP_NVGAM`: entry 13 (R216). -/
def execDsOpNvgam (s : State) : Host.Outcome State Fault Refusal := .next (sendInit 13 s).statement

/-- The meaning of `DS_OP_INVON`: entry 14 (R217). -/
def execDsOpInvon (s : State) : Host.Outcome State Fault Refusal := .next (sendInit 14 s).statement

/-- The meaning of `DS_OP_DISPON`: entry 15 (R218). -/
def execDsOpDispon (s : State) : Host.Outcome State Fault Refusal := .next (sendInit 15 s).statement

/-- The meaning of `DS_OP_CASET` (R222). -/
def execDsOpCaset (x0 x1 : Half) (s : State) : Host.Outcome State Fault Refusal := .next (sendCaset x0 x1 s).statement

/-- The meaning of `DS_OP_RASET` (R223). -/
def execDsOpRaset (y0 y1 : Half) (s : State) : Host.Outcome State Fault Refusal := .next (sendRaset y0 y1 s).statement

/-- The meaning of `DS_OP_RAMWR` (R224). -/
def execDsOpRamwr (s : State) : Host.Outcome State Fault Refusal := .next (sendRamwr s).statement

/-! ## DS_NEW (`42_display.md` R201, R202, R219) -/

/-- `ENTRY`. -/
def dsEntry (s : State) : State :=
  { s with dsp := { s.dsp with seq := .entry, ready := false, stream := false, remain := 0 } }

/-- `RESET`: the hard reset of the controller (R202). -/
def hardReset (s : State) : State :=
  let s := delay s.cfg.dsResetLow (setRstN false (s.dsAt .reset))
  delay s.cfg.dsResetWait (setRstN true s)

/-- `INIT` from the entries named, in order. -/
def initLoop : List (Fin 16) → State → Run
  | [], s => .ok s
  | k :: ks, s => (sendInit k (s.dsAt (.init k))).andThen (initLoop ks)

/-- `BL`: the backlight, if present (R219). -/
def backlightOn (s : State) : State := if s.cfg.dsHasBl then setBl true (s.dsAt .bl) else s.dsAt .bl

/-- `DONE`. -/
def dsDone (s : State) : State := { s with dsp := { s.dsp with seq := .done, ready := true } }

/-- `BL` and `DONE`. -/
def dsReady (s : State) : State := dsDone (backlightOn s)

/-- `DS_NEW`. -/
def dsNew (s : State) : Run :=
  (initLoop (List.finRange 16) (hardReset (dsEntry s))).andThen fun s => .ok (dsReady s)

/-- The meaning of `DS_NEW`. -/
def execDsNew (s : State) : Host.Outcome State Fault Refusal := .next ((dsNew s).finish .dsp noPayload)

/-! ## The window address encoder (`42_display.md` R221) -/

/-- The registers after the five transfers. -/
def openWindow (x0 y0 x1 y1 : Half) (s : State) : State :=
  { s with dsp := { s.dsp with
      x0 := x0, y0 := y0, x1 := x1, y1 := y1, stream := true
      remain := BitVec.ofNat 32 (windowCount x0 y0 x1 y1) } }

/-- `SetWindow`. -/
def setWindow (x0 y0 x1 y1 : Half) (s : State) : Run :=
  (((sendCaset x0 x1 s).andThen (sendRaset y0 y1)).andThen sendRamwr).andThen fun s =>
    .ok (openWindow x0 y0 x1 y1 s)

/-- `if DS_READY = 0: fail NotReadyError`, the first statement of every display operation but `DS_NEW`. -/
def needDisplay (s : State) : Run := if s.dsp.ready then .ok s else .err .notReadyError s

/-- `DS_SET_WINDOW` (`42_display.md` R220). -/
def dsSetWindow (x0 y0 x1 y1 : Half) (s : State) : Run :=
  (needDisplay s).andThen fun s =>
    if windowOk s.cfg x0 y0 x1 y1 then setWindow x0 y0 x1 y1 s else .err .boundsError s

/-- The meaning of `DS_SET_WINDOW`. -/
def execDsSetWindow (x0 y0 x1 y1 : Half) (s : State) : Host.Outcome State Fault Refusal :=
  .next ((dsSetWindow x0 y0 x1 y1 s).finish .dsp noPayload)

/-! ## DS_PUSH and DS_PIXEL -/

/-- `DS_REMAIN <- DS_REMAIN − k`. -/
def spend (k : Nat) (s : State) : State :=
  { s with dsp := { s.dsp with remain := s.dsp.remain - BitVec.ofNat 32 k } }

/-- `DS_PUSH` (`42_display.md` R225). -/
def dsPush (color : Half) (s : State) : Run :=
  (needDisplay s).andThen fun s =>
    if streamOpen s.dsp then (dsData (pixelBytes color) s).andThen fun s => .ok (spend 1 s)
    else .err .boundsError s

/-- The meaning of `DS_PUSH`. -/
def execDsPush (color : Half) (s : State) : Host.Outcome State Fault Refusal :=
  .next ((dsPush color s).finish .dsp noPayload)

/-- `DS_REMAIN <- 0`. -/
def windowFull (s : State) : State := { s with dsp := { s.dsp with remain := 0 } }

/-- `Pixel(px, py, c)`: coordinates of up to 17 bits (`42_display.md` R227). -/
def pixel (px py : Nat) (c : Half) (s : State) : Run :=
  if onPanel s.cfg px py then
    let x := BitVec.ofNat 16 px
    let y := BitVec.ofNat 16 py
    ((setWindow x y x y s).andThen (dsData (pixelBytes c))).andThen fun s => .ok (windowFull s)
  else .err .boundsError s

/-- `DS_PIXEL` (`42_display.md` R226). -/
def dsPixel (x y color : Half) (s : State) : Run :=
  (needDisplay s).andThen (pixel x.toNat y.toNat color)

/-- The meaning of `DS_PIXEL`. -/
def execDsPixel (x y color : Half) (s : State) : Host.Outcome State Fault Refusal :=
  .next ((dsPixel x y color s).finish .dsp noPayload)

/-! ## DS_FILL_RECT (`42_display.md` R230 to R232) -/

/-- `LOAD`: the first min(n, `DS_CHUNK`) entries of the chunk buffer take the colour. -/
def loadChunk (n : Nat) (color : Half) (s : State) : State :=
  let k := min n s.cfg.dsChunk
  { s with dsp := { s.dsp with
      seq := .load n color, chunk := List.replicate k color ++ s.dsp.chunk.drop k } }

/-- The bytes of the first k pixels of the chunk buffer. -/
def chunkBytes (k : Nat) (buf : List Half) : List Byte := (buf.take k).flatMap pixelBytes

/-- `STREAM`: one transfer of the n pixels left (R232). -/
def streamChunk (n : Nat) (s : State) : Run :=
  let k := min n s.cfg.dsChunk
  (dsData (chunkBytes k s.dsp.chunk) (s.dsAt (.stream n))).andThen fun s => .ok (spend k s)

/-- `STREAM`: the next m transfers of the n pixels left. -/
def streamChunks : Nat → Nat → State → Run
  | 0, _, s => .ok s
  | m + 1, n, s => (streamChunk n s).andThen (streamChunks m (n - min n s.cfg.dsChunk))

/-- `WIN`: the window of a rectangle of w' by h' pixels, w' and h' not 0. -/
def fillWindow (x y : Half) (w h : Nat) (s : State) : Run :=
  setWindow x y (BitVec.ofNat 16 (x.toNat + w - 1)) (BitVec.ofNat 16 (y.toNat + h - 1)) s

/-- `WIN`, `LOAD`, `STREAM`. -/
def fillClamped (x y : Half) (w h : Nat) (color : Half) (s : State) : Run :=
  (fillWindow x y w h (s.dsAt (.win x y w h color))).andThen fun s =>
    streamChunks (chunkCount (w * h) s.cfg.dsChunk) (w * h) (loadChunk (w * h) color s)

/-- `DS_FILL_RECT` (`42_display.md` R230, R231). -/
def dsFillRect (x y w h color : Half) (s : State) : Run :=
  (needDisplay s).andThen fun s =>
    if rectEmpty s.cfg x y w h then .ok (s.dsAt (.clamp x y w h color))
    else fillClamped x y (clampSide x.toNat w.toNat s.cfg.panelW) (clampSide y.toNat h.toNat s.cfg.panelH) color s

/-- The meaning of `DS_FILL_RECT`. -/
def execDsFillRect (x y w h color : Half) (s : State) : Host.Outcome State Fault Refusal :=
  .next ((dsFillRect x y w h color s).finish .dsp noPayload)

/-! ## DS_DRAW_TEXT (`42_display.md` R235 to R239) -/

/-- The 64 positions of a glyph as (row, col): rows outer, columns inner (R236). -/
def scanOrder : List (Nat × Nat) := (List.range 8).flatMap fun row => (List.range 8).map fun col => (row, col)

/-- `DS_ROW <- row; DS_COL <- col`. -/
def scanAt (row col : Nat) (s : State) : State :=
  { s with dsp := { s.dsp with row := BitVec.ofNat 3 row, col := BitVec.ofNat 3 col } }

/-- One position of glyph g: a set bit is a pixel of the colour, an unset one a pixel of the background if there is one. -/
def glyphPixel (g : Nat) (color : Half) (hasBg : Bool) (bg : Half) (row col : Nat) (s : State) : Run :=
  let s := scanAt row col s
  if fontBit s.cfg g row col then pixel (s.dsp.cx.toNat + col) (s.dsp.cy.toNat + row) color s
  else if hasBg then pixel (s.dsp.cx.toNat + col) (s.dsp.cy.toNat + row) bg s
  else .ok s

/-- The positions named, in order. -/
def drawGlyph (g : Nat) (color : Half) (hasBg : Bool) (bg : Half) : List (Nat × Nat) → State → Run
  | [], s => .ok s
  | p :: ps, s => (glyphPixel g color hasBg bg p.1 p.2 s).andThen (drawGlyph g color hasBg bg ps)

/-- The cursor after a glyph: 8 columns right, or to the origin column 8 rows down where the next cell would not fit (R237). -/
def advanceCursor (s : State) : State :=
  let cx := s.dsp.cx + 8
  if s.cfg.panelW < cx.toNat + 8 then
    { s with dsp := { s.dsp with cx := s.dsp.ox.setWidth 17, cy := s.dsp.cy + 8 } }
  else { s with dsp := { s.dsp with cx := cx } }

/-- One character: skipped outside 32..126 (R238). -/
def drawChar (color : Half) (hasBg : Bool) (bg : Half) (ch : Byte) (s : State) : Run :=
  if printable ch then
    (drawGlyph (glyphIndex ch) color hasBg bg scanOrder s).andThen fun s => .ok (advanceCursor s)
  else .ok s

/-- The characters in order. -/
def drawChars (color : Half) (hasBg : Bool) (bg : Half) : List Byte → State → Run
  | [], s => .ok s
  | ch :: rest, s => (drawChar color hasBg bg ch s).andThen (drawChars color hasBg bg rest)

/-- `DS_OX <- x; DS_CX <- x; DS_CY <- y`. -/
def homeCursor (x y : Half) (s : State) : State :=
  { s with dsp := { s.dsp with ox := x, cx := x.setWidth 17, cy := y.setWidth 17 } }

/-- `DS_DRAW_TEXT` (`42_display.md` R235). -/
def dsDrawText (x y color : Half) (hasBg : Bool) (bg : Half) (text : List Byte) (s : State) : Run :=
  (needDisplay s).andThen fun s => drawChars color hasBg bg text (homeCursor x y s)

/-- The meaning of `DS_DRAW_TEXT`. -/
def execDsDrawText (x y color : Half) (hasBg : Bool) (bg : Half) (text : List Byte) (s : State) :
    Host.Outcome State Fault Refusal :=
  .next ((dsDrawText x y color hasBg bg text s).finish .dsp noPayload)

/-! ## The DSP sequencer, statement by statement (`10_state.md` R22; log 7, log 8) -/

/-- The wire command the sequencer stands at. -/
def wireAt : DsSeq → Option Instr
  | .init k => some initInstrs[k]
  | .caset x0 _ x1 _ => some (.dsOpCaset x0 x1)
  | .raset _ y0 _ y1 => some (.dsOpRaset y0 y1)
  | .ramwr _ _ _ _ => some .dsOpRamwr
  | .idle | .entry | .reset | .bl | .done | .clamp _ _ _ _ _ | .win _ _ _ _ _ | .load _ _ | .stream _ => none

/-- What follows a wire command that completed: the next one of the same operation, `BL` of `DS_NEW` (R201), or the end of
`DS_SET_WINDOW` (R220, R221). -/
def afterWire (s : State) : State :=
  match s.dsp.seq with
  | .init k => if h : k.val + 1 < 16 then s.dsAt (.init ⟨k.val + 1, h⟩) else s.dsAt .bl
  | .caset x0 y0 x1 y1 => s.dsAt (.raset x0 y0 x1 y1)
  | .raset x0 y0 x1 y1 => s.dsAt (.ramwr x0 y0 x1 y1)
  | .ramwr x0 y0 x1 y1 => (openWindow x0 y0 x1 y1 s).respond .dsp []
  | .idle | .entry | .reset | .bl | .done | .clamp _ _ _ _ _ | .win _ _ _ _ _ | .load _ _ | .stream _ => s

/-- The statement at a label of `DS_SEQ` that is no wire command, after which the sequencer stands at the next one, or its operation
has ended (`42_display.md` R201, R230). -/
def dsStatement (s : State) : State :=
  match s.dsp.seq with
  | .entry => (dsEntry s).dsAt .reset
  | .reset => (hardReset s).dsAt (.init 0)
  | .bl => (backlightOn s).dsAt .done
  | .done => (dsDone s).respond .dsp []
  | .clamp x y w h color =>
    if rectEmpty s.cfg x y w h then s.respond .dsp []
    else s.dsAt (.win x y (clampSide x.toNat w.toNat s.cfg.panelW) (clampSide y.toNat h.toNat s.cfg.panelH) color)
  | .win x y w h color => (fillWindow x y w h s).goOn .dsp (·.dsAt (.load (w * h) color))
  | .load n color => (loadChunk n color s).dsAt (.stream n)
  | .stream n =>
    if n = 0 then s.respond .dsp []
    else (streamChunk n s).goOn .dsp (·.dsAt (.stream (n - min n s.cfg.dsChunk)))
  | .idle | .init _ | .caset _ _ _ _ | .raset _ _ _ _ | .ramwr _ _ _ _ => s

/-- A wire command's outcome inside its operation: the sequencer goes on, unless the command failed and ended the operation. -/
def inOperation : Host.Outcome State Fault Refusal → Host.Outcome State Fault Refusal
  | .next s => .next (if s.busy then afterWire s else s)
  | .fault f => .fault f
  | .refused r => .refused r

/-- The label at which a wire command stands when it is to run next. -/
def wireLabel : Instr → Option DsSeq
  | .dsOpCaset x0 x1 => some (.caset x0 0 x1 0)
  | .dsOpRaset y0 y1 => some (.raset 0 y0 0 y1)
  | .dsOpRamwr => some (.ramwr 0 0 0 0)
  | .dsOpSwreset => some (.init 0)
  | .dsOpSlpout => some (.init 1)
  | .dsOpMadctl => some (.init 2)
  | .dsOpColmod => some (.init 3)
  | .dsOpPorctrl => some (.init 4)
  | .dsOpGctrl => some (.init 5)
  | .dsOpVcoms => some (.init 6)
  | .dsOpLcmctrl => some (.init 7)
  | .dsOpPwr1 => some (.init 8)
  | .dsOpPwr2 => some (.init 9)
  | .dsOpPwr3 => some (.init 10)
  | .dsOpFrctrl => some (.init 11)
  | .dsOpPvgam => some (.init 12)
  | .dsOpNvgam => some (.init 13)
  | .dsOpInvon => some (.init 14)
  | .dsOpDispon => some (.init 15)
  | .swMeasure | .swTemperature | .swHumidity | .cbNew _ | .cbRead | .cbAltitude _ _ | .dsNew | .dsSetWindow _ _ _ _
  | .dsFillRect _ _ _ _ _ | .dsPixel _ _ _ | .dsDrawText _ _ _ _ _ _ | .dsPush _ => none

end Sys2Proof.Machine
end

