-- ==== Sys2Proof/Machine/SingleWire.lean ====
section
/-! DEFINITION. SWS: `SW_MEASURE`, `SW_TEMPERATURE`, `SW_HUMIDITY` (`40_single_wire.md`), and the tick-by-tick state machine of
R151. -/

namespace Sys2Proof.Machine

/-! ## Waits (`40_single_wire.md` R142, R143) -/

/-- `SW_CNT <- n`. -/
def State.swCount (n : Nat) (s : State) : State := { s with sws := { s.sws with cnt := n } }

/-- The rest of a `WaitLevel` of which n samples are left: whether the level came, and the state. -/
def waitLevel (level : Bool) : Nat → State → Bool × State
  | 0, s => (false, s)
  | n + 1, s =>
    if (lineSample s).1 = level then (true, (lineSample s).2)
    else waitLevel level n ((lineSample s).2.swCount ((lineSample s).2.sws.cnt + 1))

/-- A wait of `SW_MEASURE` at label q: `if WaitLevel(level, bound) = timeout: fail TimeoutError`. -/
def awaitLevel (q : SwSeq) (level : Bool) (bound : Nat) (s : State) : Run :=
  let r := waitLevel level bound ((s.swAt q).swCount 0)
  if r.1 then .ok r.2 else .err .timeoutError r.2

/-- The rest of a `MeasureHigh` of which n samples may still be high; the count is `SW_CNT`. -/
def measureHigh : Nat → State → Bool × State
  | 0, s => (false, s)
  | n + 1, s =>
    if (lineSample s).1 then measureHigh n ((lineSample s).2.swCount ((lineSample s).2.sws.cnt + 1))
    else (true, (lineSample s).2)

/-! ## SW_MEASURE -/

/-- `STORE`: the measured count in `SW_CNT` decodes bit `SW_BIT` (`40_single_wire.md` R143, R145). -/
def storeBit (s : State) : State :=
  { s with sws := { s.sws with
      buf := storeFrameBit s.sws.buf s.sws.bit (bitOf s.cfg s.sws.cnt), bit := s.sws.bit + 1 } }

/-- `HIGH` and `STORE`. -/
def highPhase (s : State) : Run :=
  let r := measureHigh s.cfg.swNBit ((s.swAt .high).swCount 0)
  if r.1 then .ok (storeBit r.2) else .err .timeoutError r.2

/-- One bit: `FALL`, `RISE`, `HIGH`, `STORE`. -/
def readBit (s : State) : Run :=
  ((awaitLevel .fall false s.cfg.swNBit s).andThen fun s =>
    awaitLevel .rise true s.cfg.swNBit s).andThen highPhase

/-- The next n bits. -/
def readBits : Nat → State → Run
  | 0, s => .ok s
  | n + 1, s => (readBit s).andThen (readBits n)

/-- `PRE`, `START_L`, `START_H`, `REL`: the host-initiated reset of the line. -/
def startPulse (s : State) : State :=
  let s := delay s.cfg.swIdleHigh (lineDrive true (s.swAt .pre))
  let s := delay s.cfg.swStartLow (lineDrive false (s.swAt .startL))
  let s := delay s.cfg.swStartHigh (lineDrive true (s.swAt .startH))
  lineRelease s

/-- `SW_BIT <- 0`. -/
def firstBit (s : State) : State := { s with sws := { s.sws with bit := 0 } }

/-- `COMMIT` (`40_single_wire.md` R147). -/
def commitReading (s : State) : State :=
  { s with sws := { s.sws with
      hum := s.sws.buf[0], temp := s.sws.buf[2], valid := true, ts := s.tick } }

/-- `CHECK` and `COMMIT` (`40_single_wire.md` R146, R147). -/
def checkAndCommit (s : State) : Run :=
  if checksumOk s.sws.buf then .ok (commitReading s) else .err .checksumError s

/-- The handshake and decode of an open gate (`40_single_wire.md` R141). -/
def handshake (s : State) : Run :=
  (((awaitLevel .ackL false s.cfg.swNAck (startPulse s)).andThen fun s =>
    awaitLevel .ackH true s.cfg.swNAck s).andThen fun s =>
      readBits 40 (firstBit s)).andThen checkAndCommit

/-- `SW_MEASURE` (`40_single_wire.md` R140, R141). -/
def swMeasure (s : State) : Run := if gateClosed s then .ok s else handshake s

/-- The meaning of `SW_MEASURE`. -/
def execSwMeasure (s : State) : Host.Outcome State Fault Refusal :=
  .next ((swMeasure s).finish .sws noPayload)

/-! ## The accessors (`40_single_wire.md` R148, R149) -/

/-- Fail `NotReadyError` unless a measurement has ever succeeded. -/
def needReading (s : State) : Run := if s.sws.valid then .ok s else .err .notReadyError s

/-- The meaning of `SW_TEMPERATURE`. -/
def execSwTemperature (s : State) : Host.Outcome State Fault Refusal :=
  .next ((needReading s).finish .sws fun s => [s.sws.temp])

/-- The meaning of `SW_HUMIDITY`. -/
def execSwHumidity (s : State) : Host.Outcome State Fault Refusal :=
  .next ((needReading s).finish .sws fun s => [s.sws.hum])

/-! ## The state machine, tick by tick (`40_single_wire.md` R151)

The same operation at the grain of one tick: `swEnterPre` is the acceptance of an open gate, `swTick` one tick of the state
`SW_SEQ` names. `SW_CNT` counts the ticks of a driven phase and the samples of a wait. -/

/-- Leave for a sampling state with `SW_CNT` = 0. -/
def swEnter (q : SwSeq) (s : State) : State := (s.swAt q).swCount 0

/-- Leave a driven phase of n ticks for the line's release and `ACK_L`. -/
def swEnterAckL (s : State) : State := swEnter .ackL (lineRelease s)

/-- Begin `START_H`: it is over at once where it has no ticks. -/
def swEnterStartH (s : State) : State :=
  let s := swEnter .startH (lineDrive true s)
  if s.cfg.swStartHigh = 0 then swEnterAckL (s.log (.delay 0)) else s

/-- Begin `START_L`. -/
def swEnterStartL (s : State) : State :=
  let s := swEnter .startL (lineDrive false s)
  if s.cfg.swStartLow = 0 then swEnterStartH (s.log (.delay 0)) else s

/-- Begin `PRE`: the acceptance of a `SW_MEASURE` whose gate is open. -/
def swEnterPre (s : State) : State :=
  let s := swEnter .pre (lineDrive true s)
  if s.cfg.swIdleHigh = 0 then swEnterStartL (s.log (.delay 0)) else s

/-- One tick of a driven phase of n ticks, left for `next` after the last. -/
def swDriven (n : Nat) (next : State → State) (s : State) : State :=
  let s := (s.tickBy 1).swCount (s.sws.cnt + 1)
  if n ≤ s.sws.cnt then next (s.log (.delay n)) else s

/-- One sample of a wait for `level` with this bound, left for `next` when the level comes. -/
def swWaiting (level : Bool) (bound : Nat) (next : State → State) (s : State) : State :=
  let r := lineSample s
  if r.1 = level then next r.2
  else
    let s := r.2.swCount (r.2.sws.cnt + 1)
    if bound ≤ s.sws.cnt then s.fail .sws .timeoutError else s

/-- One sample of `HIGH`; a low sample stores the bit and goes on to the next bit or to `CHECK`. -/
def swMeasuring (s : State) : State :=
  let r := lineSample s
  if r.1 then
    let s := r.2.swCount (r.2.sws.cnt + 1)
    if s.cfg.swNBit ≤ s.sws.cnt then s.fail .sws .timeoutError else s
  else
    let s := storeBit r.2
    if s.sws.bit < 40 then swEnter .fall s else (checkAndCommit s).finish .sws noPayload

/-- One tick of the SWS state machine. -/
def swTick (s : State) : State :=
  match s.sws.seq with
  | .idle => s
  | .pre => swDriven s.cfg.swIdleHigh swEnterStartL s
  | .startL => swDriven s.cfg.swStartLow swEnterStartH s
  | .startH => swDriven s.cfg.swStartHigh swEnterAckL s
  | .ackL => swWaiting false s.cfg.swNAck (swEnter .ackH) s
  | .ackH => swWaiting true s.cfg.swNAck (fun s => swEnter .fall (firstBit s)) s
  | .fall => swWaiting false s.cfg.swNBit (swEnter .rise) s
  | .rise => swWaiting true s.cfg.swNBit (swEnter .high) s
  | .high => swMeasuring s

end Sys2Proof.Machine
end

