-- ==== Sys2Proof/Machine/Dispatch.lean ====
section
/-! DEFINITION. One arm per instruction. -/

namespace Sys2Proof.Machine

-- the meaning of every instruction
def exec (i : Instr) (s : State) : Host.Outcome State Fault Refusal :=
  match i with
  | .swMeasure => Sys2Proof.Machine.execSwMeasure s
  | .swTemperature => Sys2Proof.Machine.execSwTemperature s
  | .swHumidity => Sys2Proof.Machine.execSwHumidity s
  | .cbNew addr => Sys2Proof.Machine.execCbNew addr s
  | .cbRead => Sys2Proof.Machine.execCbRead s
  | .cbAltitude p p0 => Sys2Proof.Machine.execCbAltitude p p0 s
  | .dsNew => Sys2Proof.Machine.execDsNew s
  | .dsSetWindow x0 y0 x1 y1 => Sys2Proof.Machine.execDsSetWindow x0 y0 x1 y1 s
  | .dsFillRect x y w h color => Sys2Proof.Machine.execDsFillRect x y w h color s
  | .dsPixel x y color => Sys2Proof.Machine.execDsPixel x y color s
  | .dsDrawText x y color hasBg bg text => Sys2Proof.Machine.execDsDrawText x y color hasBg bg text s
  | .dsPush color => Sys2Proof.Machine.execDsPush color s
  | .dsOpSwreset => Sys2Proof.Machine.execDsOpSwreset s
  | .dsOpSlpout => Sys2Proof.Machine.execDsOpSlpout s
  | .dsOpMadctl => Sys2Proof.Machine.execDsOpMadctl s
  | .dsOpColmod => Sys2Proof.Machine.execDsOpColmod s
  | .dsOpPorctrl => Sys2Proof.Machine.execDsOpPorctrl s
  | .dsOpGctrl => Sys2Proof.Machine.execDsOpGctrl s
  | .dsOpVcoms => Sys2Proof.Machine.execDsOpVcoms s
  | .dsOpLcmctrl => Sys2Proof.Machine.execDsOpLcmctrl s
  | .dsOpPwr1 => Sys2Proof.Machine.execDsOpPwr1 s
  | .dsOpPwr2 => Sys2Proof.Machine.execDsOpPwr2 s
  | .dsOpPwr3 => Sys2Proof.Machine.execDsOpPwr3 s
  | .dsOpFrctrl => Sys2Proof.Machine.execDsOpFrctrl s
  | .dsOpPvgam => Sys2Proof.Machine.execDsOpPvgam s
  | .dsOpNvgam => Sys2Proof.Machine.execDsOpNvgam s
  | .dsOpInvon => Sys2Proof.Machine.execDsOpInvon s
  | .dsOpDispon => Sys2Proof.Machine.execDsOpDispon s
  | .dsOpCaset x0 x1 => Sys2Proof.Machine.execDsOpCaset x0 x1 s
  | .dsOpRaset y0 y1 => Sys2Proof.Machine.execDsOpRaset y0 y1 s
  | .dsOpRamwr => Sys2Proof.Machine.execDsOpRamwr s

end Sys2Proof.Machine
end

