-- ==== Sys2Proof/Machine/Port.lean ====
section
/-! DEFINITION. The command port and the sequencers: what one step is made of. -/

namespace Sys2Proof.Machine

/-- A packet presented while `BUSY` = 0 is accepted, carried out and answered (`30_encoding.md` R100); an illegal one is answered
`[ILLEGAL]` and changes nothing else (R105). `s` is the state whose remaining moves are those after this one. -/
def stepPacket (bytes : List Byte) (s : State) : Host.Outcome State Fault Refusal :=
  match decode s.cfg.cbHasAltitude bytes with
  | .ok i => exec i s.accept
  | .illegal _ => .next (s.answer [Status.illegal.code])

/-- A move of the host; with none left, a tick passes (log 6). -/
def stepIdle (s : State) : Host.Outcome State Fault Refusal :=
  match s.env.port with
  | [] => .next (s.tickBy 1)
  | .wait n :: rest => .next ((s.withPort rest).tickBy n)
  | .packet op bytes :: rest => stepPacket (op :: bytes) (s.withPort rest)

/-- The statement the sequencers stand at, no wire command among them. With every sequencer `IDLE` no operation is in progress
(`10_state.md` R22), and a tick passes as it always does (R21; log 8). -/
def innerStatement (s : State) : State :=
  if s.dsp.seq ≠ .idle then dsStatement s
  else if s.cbs.seq ≠ .idle then cbStatement s
  else s.tickBy 1

/-- Inside an operation the sequencer goes on to its next statement (`10_state.md` R22): a tick of `SW_MEASURE` (`40_single_wire.md`
R151), the wire command the DSP sequencer stands at (log 7), or another statement (log 8). -/
def stepBusy (s : State) : Host.Outcome State Fault Refusal :=
  if s.sws.seq = .idle then
    match wireAt s.dsp.seq with
    | some i => inOperation (exec i s)
    | none => .next (innerStatement s)
  else .next (swTick s)

/-- The packet `bytes` is the host's very next move to the idle block. -/
def State.presenting (bytes : List Byte) (s : State) : State :=
  match bytes with
  | [] => s
  | op :: rest => { s with busy := false, env := { s.env with port := .packet op rest :: s.env.port } }

/-- The DSP sequencer stands at `label`, inside an operation. -/
def State.standingAt (label : DsSeq) (s : State) : State :=
  { s with busy := true, sws := { s.sws with seq := .idle }, dsp := { s.dsp with seq := label } }

end Sys2Proof.Machine
end

