-- ==== Sys2Proof/Machine/Step.lean ====
section
/-! DEFINITION. One step of the machine: a move of the host (`70_reset_and_hazards.md` R316), or, at a state inside an operation,
the next statement of that operation (`10_state.md` R22). -/

namespace Sys2Proof.Machine

/-- One step. While `BUSY` = 1 a presented packet is no move at all (`10_state.md` R23). -/
def step (s : State) : Host.Outcome State Fault Refusal :=
  if s.busy then stepBusy s.ignorePacket else stepIdle s

/-- `s` with the instruction of a table word as the very next thing `step` runs: a packet is presented at the port of the idle
block; a wire command stands at its label of the DSP sequencer, inside its operation (log 6, log 7). -/
def State.withFetchWord (s : State) (nbits w : Nat) : State :=
  match (decodeTableWord nbits w).bind wireLabel with
  | some label => s.standingAt label
  | none => s.presenting (tablePacket nbits w)

end Sys2Proof.Machine
end

