-- ==== Sys2Proof/Machine/Environment.lean ====
section
/-! DEFINITION. The environments a claim may assume, none of them a part of the machine: the well-behaved sensor of
`40_single_wire.md` R153, the well-behaved bus sensor of `20_memory.md` R67 and the well-behaved display controller of R68; and the
host's program (`30_encoding.md` R115). -/

namespace Sys2Proof.Machine

/-! ## The single-wire sensor -/

/-- One transaction of a sensor after the release tick: d0 ticks high, dl low, dh high, then for each bit l ticks low and h high
(`40_single_wire.md` R153). -/
structure SensorFrame where
  d0   : Nat
  dl   : Nat
  dh   : Nat
  bits : List (Nat × Nat)
  deriving DecidableEq, Repr

/-- The levels of the line, one a tick, to the first low tick after the last bit. -/
def SensorFrame.levels (f : SensorFrame) : List Bool :=
  List.replicate f.d0 true ++ List.replicate f.dl false ++ List.replicate f.dh true
    ++ f.bits.flatMap (fun b => List.replicate b.1 false ++ List.replicate b.2 true) ++ [false]

/-- The durations of a well-behaved sensor (`40_single_wire.md` R153). -/
def SensorFrame.wellBehaved (c : Config) (f : SensorFrame) : Bool :=
  decide (f.d0 < c.swNAck) && decide (1 ≤ f.dl ∧ f.dl ≤ c.swNAck) && decide (1 ≤ f.dh ∧ f.dh ≤ c.swNBit)
    && decide (f.bits.length = 40)
    && (f.bits.take 1).all (fun b => decide (1 ≤ b.1 ∧ b.1 ≤ c.swNBit))
    && (f.bits.drop 1).all (fun b => decide (2 ≤ b.1 ∧ b.1 ≤ c.swNBit + 1))
    && f.bits.all (fun b => decide (1 ≤ b.2 ∧ b.2 ≤ c.swNBit))

/-- Bit i of the frame: its high phase lasts at least `SW_T_THRESH` + 2 ticks (`40_single_wire.md` R153). -/
def SensorFrame.bit (c : Config) (f : SensorFrame) (i : Nat) : Bool :=
  decide (c.swThresh + 2 ≤ (f.bits.getD i (0, 0)).2)

/-- How many ticks the levels last. -/
def SensorFrame.ticks (f : SensorFrame) : Nat := f.levels.length

/-! ## The bus sensor -/

/-- A device that holds a register file and acknowledges at one address (`20_memory.md` R67). -/
structure BusDevice where
  addr : BitVec 7
  regs : Vector Byte 256
  deriving DecidableEq, Repr

/-- What it answers to `I2cRead(a, reg, n)`: the registers from `reg` on, or `nack` at another address. A burst that runs past register
address 255 reads 0 there: the spec gives `DEV[0..255]` and does not say what `DEV[reg+k]` is beyond (DESIGN CHOICE, log 24). -/
def BusDevice.read (d : BusDevice) (a : BitVec 7) (reg : Byte) (n ticks : Nat) : I2cAnswer where
  ticks := ticks
  ack   := decide (a = d.addr)
  bytes := (List.range n).map fun k => d.regs.getD (reg.toNat + k) 0

/-- What it answers to a write. The register file stays as it is: `20_memory.md` R62 says a write stores its bytes, R67 does not say what
that leaves in `DEV` (DESIGN CHOICE, log 26). -/
def BusDevice.write (d : BusDevice) (a : BitVec 7) (ticks : Nat) : I2cAnswer where
  ticks := ticks
  ack   := decide (a = d.addr)
  bytes := []

/-! ## The display controller -/

/-- A controller with a frame memory, a column window, a row window, a write pointer and a mode (`20_memory.md` R68). `last` is the
last command byte; `writes` are the pixels written, newest first. -/
structure Controller where
  last      : Byte
  colStart  : Half
  colEnd    : Half
  rowStart  : Half
  rowEnd    : Half
  streaming : Bool
  px        : Nat
  py        : Nat
  writes    : List ((Nat × Nat) × Half)
  deriving DecidableEq, Repr

/-- A pixel in streaming mode: it is written at the pointer, which advances in row-major order (`20_memory.md` R68). Past the last row
of the window the controller's doing is not in the source (N15); here such a pixel is dropped. -/
def Controller.pixel (k : Controller) (color : Half) : Controller :=
  if k.rowEnd.toNat < k.py then k
  else
    { k with
      writes := ((k.px, k.py), color) :: k.writes
      px := if k.px < k.colEnd.toNat then k.px + 1 else k.colStart.toNat
      py := if k.px < k.colEnd.toNat then k.py else k.py + 1 }

/-- Data in streaming mode: two bytes a pixel, high byte first. -/
def Controller.pixels (k : Controller) : List Byte → Controller
  | hi :: lo :: rest => (k.pixel (be16 hi lo)).pixels rest
  | _ => k

/-- A command transfer ends the mode; memory-write begins it at the window's first pixel. Every other command, the software reset of
`42_display.md` R203 among them, only ends the mode: R68 does not say what it does to the windows and the frame memory, which stay
(DESIGN CHOICE, log 25). -/
def Controller.command (c : Config) (k : Controller) (b : Byte) : Controller :=
  if b = c.dsOpRamwr then
    { k with last := b, streaming := true, px := k.colStart.toNat, py := k.rowStart.toNat }
  else { k with last := b, streaming := false }

/-- A data transfer: pixels in streaming mode, a bound pair after an address command. Other data, which R68 does not speak of, changes
nothing (DESIGN CHOICE, log 25). -/
def Controller.data (c : Config) (k : Controller) (bytes : List Byte) : Controller :=
  if k.streaming then k.pixels bytes
  else
    match bytes with
    | [d0, d1, d2, d3] =>
      if k.last = c.dsOpCaset then { k with colStart := be16 d0 d1, colEnd := be16 d2 d3 }
      else if k.last = c.dsOpRaset then { k with rowStart := be16 d0 d1, rowEnd := be16 d2 d3 }
      else k
    | _ => k

/-- What the controller makes of one event of the display bus. A transfer that failed is taken as not received (PRESUMED, log 22). The
reset pin is not seen: R68 does not say what a hard reset does to the frame memory, the windows and the mode, which stay (DESIGN
CHOICE, log 25). -/
def Controller.event (c : Config) (k : Controller) : Event → Controller
  | .spiCmd b true => k.command c b
  | .spiData bytes true => k.data c bytes
  | .spiCmd _ false | .spiData _ false | .lineDrive _ | .lineRelease | .lineSample _ | .i2cRead _ _ _ _
  | .i2cWrite _ _ _ _ | .delay _ | .pin _ _ => k

/-- The controller before any transfer. -/
def Controller.start : Controller where
  last      := 0
  colStart  := 0
  colEnd    := 0
  rowStart  := 0
  rowEnd    := 0
  streaming := false
  px        := 0
  py        := 0
  writes    := []

/-- The controller after the events of a history, newest first. -/
def Controller.after (c : Config) : List Event → Controller
  | [] => Controller.start
  | e :: older => (Controller.after c older).event c e

/-- The colour the frame memory shows at (x, y), if a pixel was ever written there. -/
def Controller.shows (k : Controller) (x y : Nat) : Option Half :=
  (k.writes.find? fun w => w.1 == (x, y)).map (·.2)

/-! ## The host -/

/-- A program: its commands presented one after another (`30_encoding.md` R115). -/
def programMoves (is : List Instr) : List HostMove :=
  is.filterMap fun i =>
    match encode i with
    | [] => none
    | op :: rest => some (.packet op rest)

end Sys2Proof.Machine
end

