-- ==== Sys2Proof/Safety.lean ====
section
/-! DEFINITION. What a safe run is: the invariant of the idle block, the form of its responses, and what it may put on the display
bus. -/

namespace Sys2Proof.Machine

/-- Nothing is in flight (`70_reset_and_hazards.md` R316, R310): `BUSY` = 0, the sequencers are `IDLE`, the line is released, chip
select is deasserted. -/
structure State.Quiet (s : State) : Prop where
  notBusy  : s.busy = false
  swIdle   : s.sws.seq = .idle
  cbIdle   : s.cbs.seq = .idle
  dsIdle   : s.dsp.seq = .idle
  released : s.sws.oe = false
  csHigh   : s.dsp.csN = true

/-- The open window lies inside the panel and takes at least the pixels still counted (`10_state.md` R38, R39). -/
structure State.WindowInside (s : State) : Prop where
  columns : s.dsp.x0.toNat ≤ s.dsp.x1.toNat ∧ s.dsp.x1.toNat < s.cfg.panelW
  rows    : s.dsp.y0.toNat ≤ s.dsp.y1.toNat ∧ s.dsp.y1.toNat < s.cfg.panelH
  remain  : s.dsp.remain.toNat ≤ windowCount s.dsp.x0 s.dsp.y0 s.dsp.x1 s.dsp.y1

/-- The invariant of the idle block. -/
structure State.Inv (s : State) : Prop where
  /-- the parameters are legal -/
  cfgOk      : s.cfg.Ok
  /-- nothing is in flight (R316) -/
  quiet      : s.Quiet
  /-- the controller streams only after `DS_NEW` (R37, R39) -/
  streamNew  : s.dsp.stream = true → s.dsp.ready = true
  /-- an open window is legal (R38) -/
  window     : s.dsp.stream = true → s.WindowInside
  /-- a reading of the bus sensor is held only by a constructed unit (R31, R36) -/
  readNew    : s.cbs.rvalid = true → s.cbs.ready = true
  /-- the chunk buffer has `DS_CHUNK` entries (R41) -/
  chunkSize  : s.dsp.chunk.length = s.cfg.dsChunk

/-- A response packet: a status code of `60_exceptions.md` R260 first, and nothing after an error (`30_encoding.md` R101). -/
def responseOk (r : List Byte) : Prop :=
  ∃ code payload, r = code :: payload ∧ code.toNat ≤ 8 ∧ (code ≠ 0 → payload = [])

/-- Every response given has that form. -/
def State.ResponsesOk (s : State) : Prop := ∀ r ∈ s.obs.responses, responseOk r

/-- A bound pair inside a panel side of n pixels. -/
def boundsInside (n : Nat) (bytes : List Byte) : Prop :=
  ∃ lo hi : Half, bytes = boundBytes lo hi ∧ lo.toNat ≤ hi.toNat ∧ hi.toNat < n

/-- No out-of-range bytes go to the display bus (`42_display.md` R220): in a history, newest first, the data after an address
command is a bound pair inside the panel. -/
def addressesInside (c : Config) : List Event → Prop
  | .spiData bytes _ :: .spiCmd op ok :: older =>
    (op = c.dsOpCaset → boundsInside c.panelW bytes) ∧ (op = c.dsOpRaset → boundsInside c.panelH bytes)
      ∧ addressesInside c (.spiCmd op ok :: older)
  | _ :: older => addressesInside c older
  | [] => True

/-- Only bound pairs inside the panel have followed an address command, and where a window is open the last thing sent was not an
address command, so that the next pixel cannot be taken for bounds (`42_display.md` R220, R225). -/
structure State.BusSafe (s : State) : Prop where
  inside   : addressesInside s.cfg s.obs.events
  lastSent : s.dsp.stream = true → ∀ op ok older, s.obs.events = .spiCmd op ok :: older →
    op ≠ s.cfg.dsOpCaset ∧ op ≠ s.cfg.dsOpRaset

end Sys2Proof.Machine
end

