-- ==== Sys2Proof/Certificates/Slice0/Obligations.lean ====
section
/-! DEFINITION. The statements for the provers. The definitions under `Claims` say what the spec gives in the spec's own shape, beside
the machine's. -/

namespace Sys2Proof.Claims

open Sys2Proof Sys2Proof.Machine

/-! ## What the statements are made of -/

/-- Every transfer of these answers succeeds (`20_memory.md` R68). -/
def allOk (answers : List SpiAnswer) : Prop := ∀ a ∈ answers, a.ok = true

/-- The ticks these transfers take. -/
def spiTicks (answers : List SpiAnswer) : Nat := (answers.map (·.ticks)).sum

/-- `DS_CS_N` after a transfer (`20_memory.md` R63). -/
def csAfter (s : State) : Bool := if s.cfg.dsHasCs then true else s.dsp.csN

/-- `GateClosed`, word for word (`40_single_wire.md` R140). -/
def gateShut (s : State) : Prop := s.sws.valid = true ∧ (s.tick - s.sws.ts).toNat < s.cfg.swMinInterval

/-- The ticks of the host's start pulse. -/
def pulseTicks (c : Config) : Nat := c.swIdleHigh + c.swStartLow + c.swStartHigh

/-- The events of the start pulse, oldest first (`40_single_wire.md` R141). -/
def pulseEvents (c : Config) : List Event :=
  [.lineDrive true, .delay c.swIdleHigh, .lineDrive false, .delay c.swStartLow, .lineDrive true, .delay c.swStartHigh,
    .lineRelease]

/-- The checksum as naturals (`40_single_wire.md` R146). -/
def sumMatches (b0 b1 b2 b3 b4 : Byte) : Prop := b4.toNat = (b0.toNat + b1.toNat + b2.toNat + b3.toNat) % 256

/-- The transfers of a window, oldest first (`42_display.md` R221). -/
def windowEvents (c : Config) (x0 y0 x1 y1 : Half) : List Event :=
  [.spiCmd c.dsOpCaset true, .spiData [x0.extractLsb' 8 8, x0.extractLsb' 0 8, x1.extractLsb' 8 8, x1.extractLsb' 0 8] true,
    .spiCmd c.dsOpRaset true, .spiData [y0.extractLsb' 8 8, y0.extractLsb' 0 8, y1.extractLsb' 8 8, y1.extractLsb' 0 8] true,
    .spiCmd c.dsOpRamwr true]

/-- A colour on the wire, high byte first (`30_encoding.md` R113). -/
def colorBytes (color : Half) : List Byte := [color.extractLsb' 8 8, color.extractLsb' 0 8]

/-- The transfers of one pixel, oldest first (`42_display.md` R227). -/
def pixelEvents (c : Config) (px py : Nat) (color : Half) : List Event :=
  windowEvents c (BitVec.ofNat 16 px) (BitVec.ofNat 16 py) (BitVec.ofNat 16 px) (BitVec.ofNat 16 py)
    ++ [.spiData (colorBytes color) true]

/-- The transfers of one entry of the initialization table and its delay (`42_display.md` R201). -/
def entryEvents (e : InitEntry) : List Event :=
  [.spiCmd e.op true] ++ (if e.data = [] then [] else [.spiData e.data true]) ++ [.delay e.delay]

/-- How many transfers an entry makes. -/
def entryTransfers (e : InitEntry) : Nat := if e.data = [] then 1 else 2

/-- The pixel data of a fill of n pixels in chunks, oldest first (`42_display.md` R232): ⌊n/chunk⌋ full transfers, and one of the
remainder if there is one. -/
def fillEvents (n chunk : Nat) (color : Half) : List Event :=
  List.replicate (n / chunk) (.spiData (List.replicate chunk (colorBytes color)).flatten true)
    ++ (if n % chunk = 0 then [] else [.spiData (List.replicate (n % chunk) (colorBytes color)).flatten true])

/-- A pixel call of a text: column, row, colour. -/
abbrev Call := Nat × Nat × Half

/-- The pixel calls of glyph g with its cell at (cx, cy), row by row (`42_display.md` R235, R236). -/
def glyphCalls (c : Config) (g cx cy : Nat) (color : Half) (hasBg : Bool) (bg : Half) : List Call :=
  (List.range 8).flatMap fun row => (List.range 8).flatMap fun col =>
    if fontBit c g row col then [(cx + col, cy + row, color)]
    else if hasBg then [(cx + col, cy + row, bg)]
    else []

/-- The cursor after the cell at (cx, cy) of a line that began in column ox (`42_display.md` R237). -/
def nextCell (c : Config) (ox cx cy : Nat) : Nat × Nat :=
  if c.panelW < cx + 8 + 8 then (ox, cy + 8) else (cx + 8, cy)

/-- The pixel calls of a text with the cursor at (cx, cy) (`42_display.md` R235 to R238). -/
def textCalls (c : Config) (ox : Nat) (color : Half) (hasBg : Bool) (bg : Half) : Nat → Nat → List Byte → List Call
  | _, _, [] => []
  | cx, cy, ch :: rest =>
    if 32 ≤ ch.toNat ∧ ch.toNat ≤ 126 then
      glyphCalls c (ch.toNat - 32) cx cy color hasBg bg
        ++ textCalls c ox color hasBg bg (nextCell c ox cx cy).1 (nextCell c ox cx cy).2 rest
    else textCalls c ox color hasBg bg cx cy rest

/-- The cursor after a text. -/
def textCursor (c : Config) (ox : Nat) : Nat → Nat → List Byte → Nat × Nat
  | cx, cy, [] => (cx, cy)
  | cx, cy, ch :: rest =>
    if 32 ≤ ch.toNat ∧ ch.toNat ≤ 126 then textCursor c ox (nextCell c ox cx cy).1 (nextCell c ox cx cy).2 rest
    else textCursor c ox cx cy rest

/-- A call inside the panel. -/
def callInside (c : Config) (p : Call) : Prop := p.1 < c.panelW ∧ p.2.1 < c.panelH

/-- The window registers after the last of these calls, or as they were. -/
def windowAfter (d : Dsp) : List Call → Half × Half × Half × Half
  | [] => (d.x0, d.y0, d.x1, d.y1)
  | [p] => (BitVec.ofNat 16 p.1, BitVec.ofNat 16 p.2.1, BitVec.ofNat 16 p.1, BitVec.ofNat 16 p.2.1)
  | _ :: q :: rest => windowAfter d (q :: rest)

/-- An event as it is recorded when its transfer fails. -/
def failedForm : Event → Event
  | .spiCmd b _ => .spiCmd b false
  | .spiData bytes _ => .spiData bytes false
  | e => e

/-- The wire commands of the initialization table with their entries (`42_display.md` R203 to R218). -/
def initCommands : List (Instr × Fin 16) :=
  [(.dsOpSwreset, 0), (.dsOpSlpout, 1), (.dsOpMadctl, 2), (.dsOpColmod, 3), (.dsOpPorctrl, 4), (.dsOpGctrl, 5),
    (.dsOpVcoms, 6), (.dsOpLcmctrl, 7), (.dsOpPwr1, 8), (.dsOpPwr2, 9), (.dsOpPwr3, 10), (.dsOpFrctrl, 11),
    (.dsOpPvgam, 12), (.dsOpNvgam, 13), (.dsOpInvon, 14), (.dsOpDispon, 15)]

/-- The instruction is one of the three of SWS. -/
def isSws : Instr → Bool
  | .swMeasure | .swTemperature | .swHumidity => true
  | _ => false

/-- The instruction is one of the three of CBS. -/
def isCbs : Instr → Bool
  | .cbNew _ | .cbRead | .cbAltitude _ _ => true
  | _ => false

/-- A legal packet, clause by clause (`30_encoding.md` R105). -/
def legalPacket (hasAltitude : Bool) (op : Byte) (rest : List Byte) : Prop :=
  (op ∈ [0x10#8, 0x11#8, 0x12#8, 0x21#8, 0x30#8] ∧ rest.length = 0)
    ∨ (op = 0x20#8 ∧ rest.length = 1 ∧ (rest.getD 0 0).getLsbD 7 = false)
    ∨ (op = 0x22#8 ∧ rest.length = 8 ∧ hasAltitude = true)
    ∨ (op = 0x31#8 ∧ rest.length = 8)
    ∨ (op = 0x32#8 ∧ rest.length = 10)
    ∨ (op = 0x33#8 ∧ rest.length = 6)
    ∨ (op = 0x34#8 ∧ 10 ≤ rest.length ∧ rest.length = 10 + (rest.getD 9 0).toNat
        ∧ ∀ k, 1 ≤ k → k ≤ 7 → (rest.getD 6 0).getLsbD k = false)
    ∨ (op = 0x35#8 ∧ rest.length = 2)

/-- The 20-bit raw value of a burst, by shifts of naturals (`30_encoding.md` R109). -/
def rawValue (msb lsb xlsb : Byte) : BitVec 20 := BitVec.ofNat 20 (msb.toNat * 2 ^ 12 + lsb.toNat * 2 ^ 4 + xlsb.toNat / 2 ^ 4)

/-- `[v[31:24], v[23:16], v[15:8], v[7:0]]` (`30_encoding.md` R101). -/
def wordBytes (v : Word) : List Byte :=
  [v.extractLsb' 24 8, v.extractLsb' 16 8, v.extractLsb' 8 8, v.extractLsb' 0 8]

/-- The real altitude, in hundredths of the formula's unit (`41_bus_sensor.md` R182). -/
noncomputable def realAltitude (p p0 : Word) : ℝ :=
  100 * 44330 * (1 - ((p.toNat : ℝ) / (p0.toNat : ℝ)) ^ ((1 : ℝ) / 5.255))

/-- `s` after a display operation that did nothing but answer an error (`60_exceptions.md` R268). -/
def displayRefused (code : Byte) (s : State) : State :=
  { s with
    busy := false, sws := { s.sws with oe := false }, dsp := { s.dsp with seq := .idle }
    obs := { s.obs with responses := [code] :: s.obs.responses } }

/-- The display operations that need `DS_READY` (`42_display.md` R220, R225, R226, R230, R235). -/
def needsDisplay : Instr → Bool
  | .dsSetWindow _ _ _ _ | .dsPush _ | .dsPixel _ _ _ | .dsFillRect _ _ _ _ _ | .dsDrawText _ _ _ _ _ _ => true
  | _ => false

/-- The inclusive area of a window (`42_display.md` R228). -/
def windowArea (x0 y0 x1 y1 : Half) : Nat := (x1.toNat - x0.toNat + 1) * (y1.toNat - y0.toNat + 1)

/-- The last column or row of a clamped side (`42_display.md` R231). -/
def clampedEnd (origin side edge : Nat) : Nat := min (origin + side) edge - 1

/-- How many pixels a clamped rectangle has (`42_display.md` R230, R231). -/
def clampedArea (c : Config) (x y w h : Half) : Nat :=
  (min (x.toNat + w.toNat) c.panelW - x.toNat) * (min (y.toNat + h.toNat) c.panelH - y.toNat)

/-- The sides of a rectangle are not 0 and its origin is on the panel (`42_display.md` R230). -/
def rectVisible (c : Config) (x y w h : Half) : Prop := w ≠ 0 ∧ h ≠ 0 ∧ x.toNat < c.panelW ∧ y.toNat < c.panelH

/-- An event of the display bus. -/
def isTransfer : Event → Bool
  | .spiCmd _ _ | .spiData _ _ => true
  | _ => false

/-- What the display shows at (x, y), by its history (`20_memory.md` R68). -/
def shown (s : State) (x y : Nat) : Option Half := (Controller.after s.cfg s.obs.events).shows x y

/-- `wrap64` (`00_scope.md` R11). -/
def wrap64 (z : Int) : Int := z.bmod (2 ^ 64)

/-- `CompT` on integers, without any wrap (`41_bus_sensor.md` R178): t_fine and T. -/
def exactTemperature (adc t1 t2 t3 : Int) : Int × Int :=
  let a := adc / 2 ^ 3 - t1 * 2
  let v1 := a * t2 / 2 ^ 11
  let b := adc / 2 ^ 4 - t1
  let v2 := b * b / 2 ^ 12 * t3 / 2 ^ 14
  (v1 + v2, ((v1 + v2) * 5 + 128) / 2 ^ 8)

/-- `CompP` on integers with `wrap64` after every operator, floor shifts and the truncating division
(`41_bus_sensor.md` R179, R181; `00_scope.md` R11). -/
def wrappedPressure (adc tf p1 p2 p3 p4 p5 p6 p7 p8 p9 : Int) : Option Int :=
  let a := wrap64 (tf - 128000)
  let b := wrap64 (wrap64 (a * a) * p6)
  let b := wrap64 (b + wrap64 (wrap64 (a * p5) * 2 ^ 17))
  let b := wrap64 (b + wrap64 (p4 * 2 ^ 35))
  let c := wrap64 (wrap64 (wrap64 (a * a) * p3) / 2 ^ 8 + wrap64 (wrap64 (a * p2) * 2 ^ 12))
  let d := wrap64 (wrap64 (wrap64 (1 * 2 ^ 47) + c) * p1) / 2 ^ 33
  if d = 0 then none
  else
    let p := 1048576 - adc
    let q := wrap64 ((wrap64 (wrap64 (wrap64 (p * 2 ^ 31) - b) * 3125)).tdiv d)
    let e := wrap64 (wrap64 (p9 * (q / 2 ^ 13)) * (q / 2 ^ 13)) / 2 ^ 25
    let f := wrap64 (p8 * q) / 2 ^ 19
    some (wrap64 (wrap64 (wrap64 (q + e) + f) / 2 ^ 8 + wrap64 (p7 * 2 ^ 4)))

/-- Coefficient j of a device's calibration block, little-endian (`41_bus_sensor.md` R173). -/
def deviceCoeff (d : BusDevice) (base : Byte) (j : Nat) : Half :=
  be16 (d.regs.getD (base.toNat + (2 * j + 1)) 0) (d.regs.getD (base.toNat + 2 * j) 0)

/-- The coefficient file of a device, in the order T1, T2, T3, P1, ..., P9. -/
def deviceCoeffs (d : BusDevice) (base : Byte) : Coeffs where
  t1 := deviceCoeff d base 0
  t2 := deviceCoeff d base 1
  t3 := deviceCoeff d base 2
  p1 := deviceCoeff d base 3
  p2 := deviceCoeff d base 4
  p3 := deviceCoeff d base 5
  p4 := deviceCoeff d base 6
  p5 := deviceCoeff d base 7
  p6 := deviceCoeff d base 8
  p7 := deviceCoeff d base 9
  p8 := deviceCoeff d base 10
  p9 := deviceCoeff d base 11

/-- The 24 calibration bytes of a device. -/
def deviceCalib (d : BusDevice) (base : Byte) : List Byte :=
  (List.range 24).map fun k => d.regs.getD (base.toNat + k) 0

/-- An answer that is no identity match: not acknowledged, or another byte (`41_bus_sensor.md` R172). -/
def noMatch (c : Config) (a : I2cAnswer) : Prop := a.ack = false ∨ ∃ b, a.bytes = [b] ∧ b ≠ c.cbIdExpect

/-- What the read of an answer records: its bytes, or none. -/
def recorded (a : I2cAnswer) : Option (List Byte) := if a.ack then some a.bytes else none

/-- The second address probed (`41_bus_sensor.md` R170). -/
def alternate (c : Config) (addr : BitVec 7) : BitVec 7 := if addr = c.cbAddrA then c.cbAddrB else c.cbAddrA

/-- The answers `probes` let a `CB_NEW` of `addr` find its device at `found`, and `trail`, newest first, is what the probes leave in the
history: a match at the given address, or none there and a match at the alternate (`41_bus_sensor.md` R170 to R172). -/
def probesFind (c : Config) (addr : BitVec 7) (probes : List I2cAnswer) (found : BitVec 7) (trail : List Event) : Prop :=
  (∃ n, probes = [⟨n, true, [c.cbIdExpect]⟩] ∧ found = addr ∧ trail = [.i2cRead addr c.cbRegId 1 (some [c.cbIdExpect])])
    ∨ ∃ first n, noMatch c first ∧ probes = [first, ⟨n, true, [c.cbIdExpect]⟩] ∧ found = alternate c addr
      ∧ trail = [.i2cRead (alternate c addr) c.cbRegId 1 (some [c.cbIdExpect]), .i2cRead addr c.cbRegId 1 (recorded first)]

/-- The window encoder is reached by this command, if it succeeds: the table of `10_state.md` R43. -/
def setsWindow (c : Config) : Instr → Prop
  | .dsSetWindow _ _ _ _ | .dsPixel _ _ _ => True
  | .dsFillRect x y w h _ => rectVisible c x y w h
  | .dsDrawText x y color hasBg bg text => textCalls c x.toNat color hasBg bg x.toNat y.toNat text ≠ []
  | _ => False

/-- The operation succeeded: its response carries the status `OK` (`30_encoding.md` R101). -/
def succeeded (s t : State) : Prop := ∃ payload, t.obs.responses = (0 :: payload) :: s.obs.responses

/-- The state after these `DS_PUSH` commands, as long as each answers a next state. -/
def pushAll : List Half → State → Option State
  | [], s => some s
  | color :: rest, s =>
    match exec (.dsPush color) s with
    | .next t => pushAll rest t
    | .fault _ => none
    | .refused _ => none

end Sys2Proof.Claims

open Sys2Proof Sys2Proof.Machine Sys2Proof.Claims

/-! ## Encodings -/

/-- The port's decoder reads back every well-formed host command from its packet (`30_encoding.md` R102 to R104). -/
def Obligations.CommandPacketsDecodeBack : Prop :=
  ∀ (hasAltitude : Bool) (i : Instr), i.isCommand = true → i.wellFormed = true → i.present hasAltitude = true →
    decode hasAltitude (encode i) = .ok i

/-- Every legal packet is the packet of the command it decodes to: no bit of it is dropped, and no two packets decode alike. -/
def Obligations.LegalPacketsEncodeBack : Prop :=
  ∀ (hasAltitude : Bool) (bytes : List Byte) (i : Instr), decode hasAltitude bytes = .ok i →
    encode i = bytes ∧ i.isCommand = true ∧ i.wellFormed = true ∧ i.present hasAltitude = true

/-- A packet is legal exactly as `30_encoding.md` R105 says. -/
def Obligations.PacketsAreLegalExactlyAsStated : Prop :=
  ∀ (hasAltitude : Bool) (op : Byte) (rest : List Byte),
    (∃ i, decode hasAltitude (op :: rest) = .ok i) ↔ legalPacket hasAltitude op rest

/-- A reader of the display bus reads back every wire command, where the opcodes are distinct (`42_display.md` R203 to R218,
R222 to R224). -/
def Obligations.WireCommandsReadBack : Prop :=
  ∀ (c : Config) (i : Instr) (op : Byte) (params : List Byte), c.AddressOpsDistinct →
    (∀ j k : Fin 16, c.dsInitSeq[j].op = c.dsInitSeq[k].op → j = k) →
    encodeWire c i = some (op, params) → decodeWire c op params = some i

/-- A few packets of `95_test_vectors.md` V-EN1 decode to the commands they stand for. -/
def Obligations.PacketsOfTheVectorsDecode : Prop :=
  decode true [0x10] = .ok .swMeasure
    ∧ decode true [0x20, 0x76] = .ok (.cbNew 0x76)
    ∧ decode true [0x22, 0x01, 0x89, 0x2D, 0x41, 0x01, 0x8B, 0xCD, 0x00] = .ok (.cbAltitude 25767233 25939200)
    ∧ decode true [0x32, 0x00, 0x0A, 0x00, 0x14, 0x00, 0x64, 0x00, 0x32, 0xF8, 0x00] = .ok (.dsFillRect 10 20 100 50 0xF800)
    ∧ decode true [0x34, 0x00, 0x08, 0x00, 0x10, 0xFF, 0xFF, 0x01, 0x00, 0x1F, 0x02, 0x48, 0x69]
        = .ok (.dsDrawText 8 16 0xFFFF true 0x001F [0x48, 0x69])

/-! ## The step -/

/-- A packet presented to the idle block runs its command: `BUSY` is set, the move is used up, and the step is `exec` of the decoded
instruction (`30_encoding.md` R100). -/
def Obligations.StepRunsThePresentedCommand : Prop :=
  ∀ (s : State) (op : Byte) (rest : List Byte) (moves : List HostMove) (i : Instr), s.busy = false →
    s.env.port = .packet op rest :: moves → decode s.cfg.cbHasAltitude (op :: rest) = .ok i →
    step s = exec i { s with busy := true, env := { s.env with port := moves } }

/-- A packet presented to the idle block that is legal, clause by clause, is a command and runs; an illegal one is answered
`[ILLEGAL]`: no register, no event, no tick (`30_encoding.md` R105). -/
def Obligations.StepAnswersIllegalPackets : Prop :=
  ∀ (s : State) (op : Byte) (rest : List Byte) (moves : List HostMove), s.busy = false →
    s.env.port = .packet op rest :: moves →
    (legalPacket s.cfg.cbHasAltitude op rest → ∃ i, i.isCommand = true ∧ encode i = op :: rest
      ∧ step s = exec i { s with busy := true, env := { s.env with port := moves } })
    ∧ (¬ legalPacket s.cfg.cbHasAltitude op rest → step s = .next { s with
      env := { s.env with port := moves }, obs := { s.obs with responses := [8] :: s.obs.responses } })

/-- Between operations the host lets any number of ticks pass, and nothing else happens (`20_memory.md` R69). That an idle block
whose host has no move left lets one tick pass is the model's choice (log 6). -/
def Obligations.StepLetsTicksPass : Prop :=
  ∀ (s : State), s.busy = false →
    (∀ n moves, s.env.port = .wait n :: moves →
      step s = .next { s with tick := s.tick + BitVec.ofNat 64 n, env := { s.env with port := moves } })
    ∧ (s.env.port = [] → step s = .next { s with tick := s.tick + 1 })

/-- Inside an operation, a step at a wire command is `exec` of that command, after which the sequencer goes on (`10_state.md` R22). The
labels and what follows each are the model's (log 7). -/
def Obligations.StepRunsTheWireCommandAtItsLabel : Prop :=
  ∀ (s t : State) (i : Instr), s.busy = true → s.sws.seq = .idle → s.env.port = [] → wireAt s.dsp.seq = some i →
    exec i s = .next t → step s = .next (if t.busy then afterWire t else t)

/-- While `BUSY` = 1 the block goes on, wherever it stands, and a presented packet is not accepted, not queued and not answered: whatever
its bytes are, the step is the one that would be taken without it, and the packet is gone (`70_reset_and_hazards.md` R304,
`10_state.md` R22, R23). That the block goes on at states those rules exclude too is the model's choice (log 8). -/
def Obligations.BusyPortAcceptsNothing : Prop :=
  ∀ (s : State) (op : Byte) (rest : List Byte) (moves : List HostMove), s.busy = true →
    ∃ t, step { s with env := { s.env with port := [] } } = .next t
      ∧ step { s with env := { s.env with port := .packet op rest :: moves } }
        = .next { t with env := { t.env with port := moves } }

/-! ## The whole machine -/

/-- Every step keeps the invariant of the idle block: nothing in flight, the controller streams only after `DS_NEW`, an open window
lies inside the panel and counts no more pixels than it has, a reading of the bus sensor is held only by a constructed unit, the chunk
buffer keeps its size (`70_reset_and_hazards.md` R316, R310; `10_state.md` R31, R37 to R39, R41). -/
def Obligations.EveryStepKeepsTheInvariant : Prop :=
  ∀ s t : State, s.Inv → step s = .next t → t.Inv

/-- The reset state has the invariant, its history is safe, its responses are well formed, and its opcodes tell the address commands
apart (the default opcodes are presumed: log 2). -/
def Obligations.ResetHasTheInvariant : Prop :=
  State.reset.Inv ∧ State.reset.BusSafe ∧ State.reset.ResponsesOk ∧ State.reset.cfg.AddressOpsDistinct

/-- No step ever gives a response that is not a status code of `60_exceptions.md` R260 with nothing after an error
(`30_encoding.md` R101), at any state, inside an operation too. -/
def Obligations.EveryStepKeepsResponsesWellFormed : Prop :=
  ∀ s t : State, s.ResponsesOk → step s = .next t → t.ResponsesOk

/-- No step of the idle block sends an address command with bounds outside the panel: "it must never forward out-of-range bytes to the bus". -/
def Obligations.NoOutOfRangeBytesReachTheBus : Prop :=
  ∀ s t : State, s.Inv → s.cfg.AddressOpsDistinct → s.BusSafe → step s = .next t → t.BusSafe

/-- No step writes a parameter (`10_state.md` R24, `70_reset_and_hazards.md` R316). -/
def Obligations.NoStepWritesAParameter : Prop :=
  ∀ s t : State, step s = .next t → t.cfg = s.cfg

/-- Every host command, at any state, ends in exactly one response, and the block is ready for the next command: `BUSY` = 0, the
sequencer of its unit `IDLE` (`60_exceptions.md` R270, `10_state.md` R46). -/
def Obligations.EveryCommandEndsInOneResponse : Prop :=
  ∀ (i : Instr) (s : State), i.isCommand = true →
    ∃ t code payload, exec i s = .next t ∧ t.busy = false
      ∧ t.obs.responses = (code :: payload) :: s.obs.responses
      ∧ (isSws i = true → t.sws.seq = .idle) ∧ (isCbs i = true → t.cbs.seq = .idle)
      ∧ (isSws i = false → isCbs i = false → t.dsp.seq = .idle)

/-- Taking an error: the line is released, the unit's sequencer goes to `IDLE`, `BUSY` is cleared, the response is the one byte of the
code, no other register changes, and no later statement runs (`60_exceptions.md` R268). -/
def Obligations.TakingAnErrorStopsTheOperation : Prop :=
  (∀ (e : Status) (s : State) (f : State → Run), (Run.err e s).andThen f = .err e s)
    ∧ (∀ (e : Status) (s : State),
        s.fail .sws e = { s with
          busy := false, sws := { s.sws with oe := false, seq := .idle }
          obs := { s.obs with responses := [e.code] :: s.obs.responses } }
        ∧ s.fail .cbs e = { s with
          busy := false, sws := { s.sws with oe := false }, cbs := { s.cbs with seq := .idle }
          obs := { s.obs with responses := [e.code] :: s.obs.responses } }
        ∧ s.fail .dsp e = { s with
          busy := false, sws := { s.sws with oe := false }, dsp := { s.dsp with seq := .idle }
          obs := { s.obs with responses := [e.code] :: s.obs.responses } })

/-- The units do not touch each other: SWS commands leave CBS, DSP and their inputs alone; CBS commands leave DSP and its inputs alone,
and of SWS write at most the release of the line that every error brings; DSP commands and wire commands likewise
(`00_scope.md` R2, `60_exceptions.md` R268 (2)). -/
def Obligations.UnitsAreIndependent : Prop :=
  ∀ (i : Instr) (s t : State), exec i s = .next t →
    (isSws i = true → t.cbs = s.cbs ∧ t.dsp = s.dsp ∧ t.env.i2c = s.env.i2c ∧ t.env.spi = s.env.spi)
    ∧ (isSws i = false → (t.sws = s.sws ∨ t.sws = { s.sws with oe := false }) ∧ t.env.line = s.env.line)
    ∧ (isCbs i = true → t.dsp = s.dsp ∧ t.env.spi = s.env.spi)
    ∧ (isSws i = false → isCbs i = false → t.cbs = s.cbs ∧ t.env.i2c = s.env.i2c)
    ∧ t.cfg = s.cfg ∧ t.env.port = s.env.port

/-- The status flags other than `BUSY` are written as the table of `10_state.md` R43 says and not otherwise: `SW_VALID` is set by a
successful `SW_MEASURE` and never cleared; `CB_READY` is written by `CB_NEW` alone, 1 exactly where it succeeds; `CB_RVALID` is set by a
successful `CB_READ` and cleared by `CB_NEW`; `DS_READY` is written by `DS_NEW` alone, 1 exactly where it succeeds; `DS_STREAM` is set by
every successful operation that sets a window, and cleared by `DS_NEW` and by display operations and wire commands that end in
`BusError`. -/
def Obligations.FlagsAreWrittenAsTabled : Prop :=
  ∀ (i : Instr) (s t : State), exec i s = .next t →
    (t.sws.valid ≠ s.sws.valid → i = .swMeasure ∧ t.sws.valid = true)
    ∧ (t.cbs.ready ≠ s.cbs.ready → ∃ addr, i = .cbNew addr)
    ∧ (t.cbs.rvalid ≠ s.cbs.rvalid → (i = .cbRead ∧ t.cbs.rvalid = true) ∨ ∃ addr, i = .cbNew addr ∧ t.cbs.rvalid = false)
    ∧ (t.dsp.ready ≠ s.dsp.ready → i = .dsNew)
    ∧ (t.dsp.stream = true → s.dsp.stream = false →
        (∃ x0 y0 x1 y1, i = .dsSetWindow x0 y0 x1 y1) ∨ (∃ x y w h c, i = .dsFillRect x y w h c)
          ∨ (∃ x y c, i = .dsPixel x y c) ∨ (∃ x y c hb bg text, i = .dsDrawText x y c hb bg text))
    ∧ (t.dsp.stream = false → s.dsp.stream = true → i = .dsNew ∨ t.obs.responses = [4] :: s.obs.responses)
    ∧ (i = .swMeasure → succeeded s t → t.sws.valid = true)
    ∧ (∀ addr, i = .cbNew addr → t.cbs.rvalid = false ∧ (t.cbs.ready = true ↔ succeeded s t))
    ∧ (i = .cbRead → succeeded s t → t.cbs.rvalid = true)
    ∧ (i = .dsNew → t.dsp.stream = false ∧ (t.dsp.ready = true ↔ succeeded s t))
    ∧ (setsWindow s.cfg i → succeeded s t → t.dsp.stream = true)
    ∧ (isSws i = false → isCbs i = false → t.obs.responses = [4] :: s.obs.responses → t.dsp.stream = false)

/-- The values the spec states for reset (`10_state.md` R45), of any instance. -/
def Obligations.ResetHoldsTheStatedValues : Prop :=
  ∀ c : Config,
    (State.resetWith c).busy = false ∧ (State.resetWith c).sws.seq = .idle ∧ (State.resetWith c).cbs.seq = .idle
      ∧ (State.resetWith c).dsp.seq = .idle ∧ (State.resetWith c).sws.valid = false ∧ (State.resetWith c).sws.oe = false
      ∧ (State.resetWith c).cbs.ready = false ∧ (State.resetWith c).cbs.rvalid = false
      ∧ (State.resetWith c).dsp.ready = false ∧ (State.resetWith c).dsp.stream = false
      ∧ (State.resetWith c).dsp.rstN = true ∧ (State.resetWith c).dsp.csN = true ∧ (State.resetWith c).dsp.bl = false

/-- From reset, with no command yet accepted, however many ticks the host lets pass: the accessors, `CB_READ` and every display
operation but `DS_NEW` answer `[NotReadyError]` and cause no bus or line activity; `SW_MEASURE` finds its gate open
(`70_reset_and_hazards.md` R301). -/
def Obligations.ResetAnswersNotReady : Prop :=
  ∀ (c : Config) (n : Nat) (i : Instr),
    (i = .swTemperature ∨ i = .swHumidity ∨ i = .cbRead ∨ needsDisplay i = true →
      exec i ((State.resetWith c).tickBy n) = .next { (State.resetWith c).tickBy n with
        obs := { events := [], responses := [[6]] } })
    ∧ ¬ gateShut ((State.resetWith c).tickBy n)

/-! ## SWS -/

/-- `SW_MEASURE` is a no-op with response `[OK]` exactly while the gate is closed; otherwise it begins a handshake
(`40_single_wire.md` R140, R141). -/
def Obligations.ClosedGateIsANoOp : Prop :=
  ∀ s : State,
    (gateShut s → exec .swMeasure s = .next { s with
      busy := false, sws := { s.sws with seq := .idle }, obs := { s.obs with responses := [0] :: s.obs.responses } })
    ∧ (¬ gateShut s → ∃ t later, exec .swMeasure s = .next t
        ∧ t.obs.events = later ++ (pulseEvents s.cfg).reverse ++ s.obs.events)

/-- A well-behaved sensor's frame is decoded bit by bit, no wait times out, and the reading is committed if the checksum agrees and
kept as it was, with `ChecksumError`, if it does not (`40_single_wire.md` R141, R145 to R147, R153). -/
def Obligations.WellBehavedSensorIsDecoded : Prop :=
  ∀ (s : State) (f : SensorFrame) (rest : List Bool), ¬ gateShut s → f.wellBehaved s.cfg = true →
    s.env.line = f.levels ++ rest →
    ∃ t, exec .swMeasure s = .next t
      ∧ (∀ i, i < 40 → (t.sws.buf.getD (i / 8) 0).getLsbD (7 - i % 8) = f.bit s.cfg i)
      ∧ t.tick = s.tick + BitVec.ofNat 64 (pulseTicks s.cfg + f.ticks)
      ∧ t.obs.events = (f.levels.map Event.lineSample).reverse ++ (pulseEvents s.cfg).reverse ++ s.obs.events
      ∧ t.busy = false ∧ t.sws.seq = .idle ∧ t.sws.oe = false
      ∧ t.cfg = s.cfg ∧ t.cbs = s.cbs ∧ t.dsp = s.dsp ∧ t.env = { s.env with line := rest }
      ∧ (sumMatches t.sws.buf[0] t.sws.buf[1] t.sws.buf[2] t.sws.buf[3] t.sws.buf[4] →
          t.obs.responses = [0] :: s.obs.responses ∧ t.sws.hum = t.sws.buf[0] ∧ t.sws.temp = t.sws.buf[2]
            ∧ t.sws.valid = true ∧ t.sws.ts = t.tick)
      ∧ (¬ sumMatches t.sws.buf[0] t.sws.buf[1] t.sws.buf[2] t.sws.buf[3] t.sws.buf[4] →
          t.obs.responses = [2] :: s.obs.responses ∧ t.sws.hum = s.sws.hum ∧ t.sws.temp = s.sws.temp
            ∧ t.sws.valid = s.sws.valid ∧ t.sws.ts = s.sws.ts)

/-- A line with no sensor on it ends in `TimeoutError` after `SW_N_ACK` samples (`40_single_wire.md` R141, R142;
`60_exceptions.md` R261). -/
def Obligations.AbsentSensorTimesOut : Prop :=
  ∀ (s : State) (rest : List Bool), ¬ gateShut s → s.env.line = List.replicate s.cfg.swNAck true ++ rest →
    ∃ t, exec .swMeasure s = .next t ∧ t.obs.responses = [1] :: s.obs.responses
      ∧ t.tick = s.tick + BitVec.ofNat 64 (pulseTicks s.cfg + s.cfg.swNAck)
      ∧ t.obs.events = List.replicate s.cfg.swNAck (.lineSample true) ++ (pulseEvents s.cfg).reverse ++ s.obs.events
      ∧ t.sws = { s.sws with seq := .idle, cnt := s.cfg.swNAck, oe := false, out := true }
      ∧ t.cfg = s.cfg ∧ t.busy = false ∧ t.cbs = s.cbs ∧ t.dsp = s.dsp ∧ t.env = { s.env with line := rest }

/-- Whatever the line does, a `SW_MEASURE` whose gate is open ends: its ticks are those of the pulse and one for each sample, no more
than the bound, and where it succeeds no fewer than the least; 12308 and 230 with the defaults (`40_single_wire.md` R152). -/
def Obligations.MeasurementEndsInTime : Prop :=
  ∀ s : State, s.cfg.Ok → ¬ gateShut s →
    ∃ (t : State) (samples : List Bool), exec .swMeasure s = .next t
      ∧ t.obs.events = (samples.map Event.lineSample) ++ (pulseEvents s.cfg).reverse ++ s.obs.events
      ∧ t.tick = s.tick + BitVec.ofNat 64 (pulseTicks s.cfg + samples.length)
      ∧ samples.length ≤ 2 * s.cfg.swNAck + 40 * 3 * s.cfg.swNBit
      ∧ (t.obs.responses = [0] :: s.obs.responses → 2 + 40 * 3 ≤ samples.length)
      ∧ (s.cfg = { Config.default with swMinInterval := s.cfg.swMinInterval } →
        pulseTicks s.cfg + samples.length ≤ 12308
          ∧ (t.obs.responses = [0] :: s.obs.responses → 230 ≤ pulseTicks s.cfg + samples.length))

/-- A `SW_MEASURE` that fails has made one handshake, its pulse and then samples of the released line, and leaves the reading
bit-identical, the line released and the sequencer idle (`40_single_wire.md` R150). -/
def Obligations.FailedMeasurementKeepsTheReading : Prop :=
  ∀ s t : State, exec .swMeasure s = .next t → t.obs.responses ≠ [0] :: s.obs.responses →
    t.sws.hum = s.sws.hum ∧ t.sws.temp = s.sws.temp ∧ t.sws.valid = s.sws.valid ∧ t.sws.ts = s.sws.ts
      ∧ t.sws.oe = false ∧ t.sws.seq = .idle ∧ t.busy = false
      ∧ ∃ samples : List Bool,
        t.obs.events = samples.map Event.lineSample ++ (pulseEvents s.cfg).reverse ++ s.obs.events

/-- Corrupting any single byte of a valid frame is reported as `ChecksumError` by `CHECK`, which changes nothing
(`40_single_wire.md` R146, R154). -/
def Obligations.SingleByteCorruptionIsCaught : Prop :=
  ∀ (s : State) (k : Nat) (b : Byte), k < 5 →
    sumMatches s.sws.buf[0] s.sws.buf[1] s.sws.buf[2] s.sws.buf[3] s.sws.buf[4] → s.sws.buf.getD k 0 ≠ b →
    checkAndCommit { s with sws := { s.sws with buf := s.sws.buf.setIfInBounds k b } }
      = .err .checksumError { s with sws := { s.sws with buf := s.sws.buf.setIfInBounds k b } }

/-- The state machine of `40_single_wire.md` R151, run tick by tick from the acceptance of an open gate, does exactly what
`SW_MEASURE` does, one tick of `TICK_CNT` each, and is idle at the end and not before. -/
def Obligations.TickMachineIsTheMeasurement : Prop :=
  ∀ s : State, s.cfg.Ok → ¬ gateShut s →
    ∃ n, exec .swMeasure s = .next (swTick^[n] (swEnterPre s))
      ∧ (swTick^[n] (swEnterPre s)).tick = s.tick + BitVec.ofNat 64 n
      ∧ (swTick^[n] (swEnterPre s)).sws.seq = .idle
      ∧ ∀ m, m < n → (swTick^[m] (swEnterPre s)).sws.seq ≠ .idle

/-- The accessors return the last successfully decoded values, or fail with `NotReadyError` if there is none; nothing else happens
(`40_single_wire.md` R148, R149). -/
def Obligations.AccessorsReturnTheLastReading : Prop :=
  ∀ s : State,
    (s.sws.valid = true →
      exec .swTemperature s = .next { s with
        busy := false, sws := { s.sws with seq := .idle }
        obs := { s.obs with responses := [0, s.sws.temp] :: s.obs.responses } }
      ∧ exec .swHumidity s = .next { s with
        busy := false, sws := { s.sws with seq := .idle }
        obs := { s.obs with responses := [0, s.sws.hum] :: s.obs.responses } })
    ∧ (s.sws.valid = false →
      exec .swTemperature s = .next { s with
        busy := false, sws := { s.sws with seq := .idle, oe := false }
        obs := { s.obs with responses := [6] :: s.obs.responses } }
      ∧ exec .swHumidity s = .next { s with
        busy := false, sws := { s.sws with seq := .idle, oe := false }
        obs := { s.obs with responses := [6] :: s.obs.responses } })

/-- Bit i of the frame goes to bit 7 − (i mod 8) of byte i div 8, and no other bit changes (`40_single_wire.md` R145). -/
def Obligations.FrameBitsPackMostSignificantFirst : Prop :=
  ∀ (buf : Vector Byte 5) (i j : Nat) (v : Bool), i < 40 → j < 40 →
    ((storeFrameBit buf i v).getD (j / 8) 0).getLsbD (7 - j % 8)
      = if j = i then v else (buf.getD (j / 8) 0).getLsbD (7 - j % 8)

/-! ## CBS -/

/-- `CB_NEW` against a well-behaved device: found at the given address it makes one probe; found at the alternate, after a first probe that
was not acknowledged or read another byte, it makes two; then one 24-byte burst and one configuration write; the coefficients are the
device's, little-endian (`41_bus_sensor.md` R170 to R173, R175). That a burst past register address 255 reads 0 from the device is the
model's choice (log 24). -/
def Obligations.ConstructionFindsTheDevice : Prop :=
  ∀ (s : State) (addr : BitVec 7) (d : BusDevice) (n1 n2 n3 : Nat) (rest : List I2cAnswer),
    d.regs.getD s.cfg.cbRegId.toNat 0 = s.cfg.cbIdExpect →
    (d.addr = addr →
      s.env.i2c = d.read addr s.cfg.cbRegId 1 n1 :: d.read addr s.cfg.cbRegCalib 24 n2 :: d.write addr n3 :: rest →
      exec (.cbNew addr) s = .next { s with
        tick := s.tick + BitVec.ofNat 64 (n1 + n2 + n3), busy := false
        cbs := { s.cbs with
          seq := .idle, ready := true, rvalid := false, addr := addr, coef := deviceCoeffs d s.cfg.cbRegCalib }
        env := { s.env with i2c := rest, draws := s.env.draws + 3 }
        obs := {
          events := .i2cWrite addr s.cfg.cbRegCtrl [s.cfg.cbCtrlValue] true
            :: .i2cRead addr s.cfg.cbRegCalib 24 (some (deviceCalib d s.cfg.cbRegCalib))
            :: .i2cRead addr s.cfg.cbRegId 1 (some [s.cfg.cbIdExpect]) :: s.obs.events
          responses := [0] :: s.obs.responses } })
    ∧ (∀ first : I2cAnswer, noMatch s.cfg first → d.addr = alternate s.cfg addr →
      s.env.i2c = first :: d.read d.addr s.cfg.cbRegId 1 n1 :: d.read d.addr s.cfg.cbRegCalib 24 n2 :: d.write d.addr n3
        :: rest →
      exec (.cbNew addr) s = .next { s with
        tick := s.tick + BitVec.ofNat 64 (first.ticks + n1 + n2 + n3), busy := false
        cbs := { s.cbs with
          seq := .idle, ready := true, rvalid := false, addr := d.addr, coef := deviceCoeffs d s.cfg.cbRegCalib }
        env := { s.env with i2c := rest, draws := s.env.draws + 4 }
        obs := {
          events := .i2cWrite d.addr s.cfg.cbRegCtrl [s.cfg.cbCtrlValue] true
            :: .i2cRead d.addr s.cfg.cbRegCalib 24 (some (deviceCalib d s.cfg.cbRegCalib))
            :: .i2cRead d.addr s.cfg.cbRegId 1 (some [s.cfg.cbIdExpect]) :: .i2cRead addr s.cfg.cbRegId 1 (recorded first)
            :: s.obs.events
          responses := [0] :: s.obs.responses } })

/-- No match at either address is `DeviceNotFoundError` after the two probes, at the given address and then at the alternate; the unit
is not ready, whatever it was (`41_bus_sensor.md` R170, R172, `60_exceptions.md` R263). -/
def Obligations.ConstructionWithoutAMatchFails : Prop :=
  ∀ (s : State) (addr : BitVec 7) (a1 a2 : I2cAnswer) (rest : List I2cAnswer), s.env.i2c = a1 :: a2 :: rest →
    noMatch s.cfg a1 → noMatch s.cfg a2 →
    ∃ t r1 r2, exec (.cbNew addr) s = .next t ∧ t.obs.responses = [3] :: s.obs.responses
      ∧ t.obs.events = .i2cRead (alternate s.cfg addr) s.cfg.cbRegId 1 r2 :: .i2cRead addr s.cfg.cbRegId 1 r1 :: s.obs.events
      ∧ (a1.ack = true → r1 = some a1.bytes) ∧ (a1.ack = false → r1 = none)
      ∧ (a2.ack = true → r2 = some a2.bytes) ∧ (a2.ack = false → r2 = none)
      ∧ t.cbs = { s.cbs with seq := .idle, ready := false, rvalid := false }
      ∧ t.sws = { s.sws with oe := false } ∧ t.dsp = s.dsp ∧ t.cfg = s.cfg ∧ t.busy = false

/-- After a match, at the given address or at the alternate, a burst not acknowledged is a `BusError` and the configuration write is not
sent; a write not acknowledged is a `BusError`; either way the unit is not ready (`41_bus_sensor.md` R170 to R172). What `CB_ADDR` and the
coefficients then hold is left open (log 9). -/
def Obligations.ConstructionOnABrokenBusFails : Prop :=
  ∀ (s : State) (addr found : BitVec 7) (probes : List I2cAnswer) (trail : List Event) (a b : I2cAnswer)
    (rest : List I2cAnswer), probesFind s.cfg addr probes found trail →
    (a.ack = false → s.env.i2c = probes ++ a :: rest →
      ∃ t, exec (.cbNew addr) s = .next t ∧ t.obs.responses = [4] :: s.obs.responses
        ∧ t.cbs.ready = false ∧ t.cbs.rvalid = false ∧ t.cbs.seq = .idle ∧ t.env.i2c = rest
        ∧ t.sws = { s.sws with oe := false } ∧ t.dsp = s.dsp ∧ t.cfg = s.cfg ∧ t.busy = false
        ∧ t.obs.events = .i2cRead found s.cfg.cbRegCalib 24 none :: trail ++ s.obs.events)
    ∧ (a.ack = true → a.bytes.length = 24 → b.ack = false → s.env.i2c = probes ++ a :: b :: rest →
      ∃ t, exec (.cbNew addr) s = .next t ∧ t.obs.responses = [4] :: s.obs.responses
        ∧ t.cbs.ready = false ∧ t.cbs.rvalid = false ∧ t.cbs.seq = .idle ∧ t.env.i2c = rest
        ∧ t.sws = { s.sws with oe := false } ∧ t.dsp = s.dsp ∧ t.cfg = s.cfg ∧ t.busy = false
        ∧ t.obs.events = .i2cWrite found s.cfg.cbRegCtrl [s.cfg.cbCtrlValue] false
            :: .i2cRead found s.cfg.cbRegCalib 24 (some a.bytes) :: trail ++ s.obs.events)

/-- No operation but `CB_NEW` writes the coefficients or `CB_ADDR` (`10_state.md` R32, R33; `41_bus_sensor.md` R183). -/
def Obligations.OnlyConstructionWritesCoefficients : Prop :=
  ∀ (i : Instr) (s t : State), (∀ addr, i ≠ .cbNew addr) → exec i s = .next t →
    t.cbs.coef = s.cbs.coef ∧ t.cbs.addr = s.cbs.addr

/-! ### CB_READ -/

/-- A `CB_READ` of a constructed unit makes two bursts of three bytes, temperature first, compensates both, and writes and returns the
pair; nothing else changes (`41_bus_sensor.md` R176, R177; `30_encoding.md` R109). -/
def Obligations.ReadCompensatesBothBursts : Prop :=
  ∀ (s : State) (a b : I2cAnswer) (rest : List I2cAnswer) (b0 b1 b2 c0 c1 c2 : Byte) (p : Word), s.cbs.ready = true →
    s.env.i2c = a :: b :: rest → a.ack = true → b.ack = true → a.bytes = [b0, b1, b2] → b.bytes = [c0, c1, c2] →
    compP (rawValue c0 c1 c2) (compT (rawValue b0 b1 b2) s.cbs.coef).1 s.cbs.coef = some p →
    exec .cbRead s = .next { s with
      tick := s.tick + BitVec.ofNat 64 (a.ticks + b.ticks), busy := false
      cbs := { s.cbs with
        seq := .idle, adcT := rawValue b0 b1 b2, adcP := rawValue c0 c1 c2
        tfine := (compT (rawValue b0 b1 b2) s.cbs.coef).1, t := (compT (rawValue b0 b1 b2) s.cbs.coef).2, p := p
        rvalid := true, ts := s.tick + BitVec.ofNat 64 (a.ticks + b.ticks) }
      env := { s.env with i2c := rest, draws := s.env.draws + 2 }
      obs := {
        events := .i2cRead s.cbs.addr s.cfg.cbRegPress 3 (some [c0, c1, c2])
          :: .i2cRead s.cbs.addr s.cfg.cbRegTemp 3 (some [b0, b1, b2]) :: s.obs.events
        responses := (0 :: wordBytes (compT (rawValue b0 b1 b2) s.cbs.coef).2 ++ wordBytes p) :: s.obs.responses } }

/-- A failed `CB_READ`, clause by clause: never constructed; the temperature burst not acknowledged, and then the pressure burst is not
sent; the pressure burst not acknowledged; the denominator zero. Each answers its code; the unit stays ready, its instance and its
reading stay as they were (`41_bus_sensor.md` R176, R180, R183). -/
def Obligations.FailedReadsKeepTheReading : Prop :=
  ∀ s : State,
    (s.cbs.ready = false → exec .cbRead s = .next { s with
      busy := false, sws := { s.sws with oe := false }, cbs := { s.cbs with seq := .idle }
      obs := { s.obs with responses := [6] :: s.obs.responses } })
    ∧ ∀ (a b : I2cAnswer) (rest : List I2cAnswer) (b0 b1 b2 c0 c1 c2 : Byte), s.cbs.ready = true →
      (s.env.i2c = a :: rest → a.ack = false → exec .cbRead s = .next { s with
        tick := s.tick + BitVec.ofNat 64 a.ticks, busy := false
        sws := { s.sws with oe := false }, cbs := { s.cbs with seq := .idle }
        env := { s.env with i2c := rest, draws := s.env.draws + 1 }
        obs := {
          events := .i2cRead s.cbs.addr s.cfg.cbRegTemp 3 none :: s.obs.events
          responses := [4] :: s.obs.responses } })
      ∧ (s.env.i2c = a :: b :: rest → a.ack = true → a.bytes = [b0, b1, b2] → b.ack = false →
        exec .cbRead s = .next { s with
          tick := s.tick + BitVec.ofNat 64 (a.ticks + b.ticks), busy := false
          sws := { s.sws with oe := false }, cbs := { s.cbs with seq := .idle, adcT := rawValue b0 b1 b2 }
          env := { s.env with i2c := rest, draws := s.env.draws + 2 }
          obs := {
            events := .i2cRead s.cbs.addr s.cfg.cbRegPress 3 none
              :: .i2cRead s.cbs.addr s.cfg.cbRegTemp 3 (some [b0, b1, b2]) :: s.obs.events
            responses := [4] :: s.obs.responses } })
      ∧ (s.env.i2c = a :: b :: rest → a.ack = true → a.bytes = [b0, b1, b2] → b.ack = true → b.bytes = [c0, c1, c2] →
        compP (rawValue c0 c1 c2) (compT (rawValue b0 b1 b2) s.cbs.coef).1 s.cbs.coef = none →
        exec .cbRead s = .next { s with
          tick := s.tick + BitVec.ofNat 64 (a.ticks + b.ticks), busy := false
          sws := { s.sws with oe := false }
          cbs := { s.cbs with
            seq := .idle, adcT := rawValue b0 b1 b2, adcP := rawValue c0 c1 c2
            tfine := (compT (rawValue b0 b1 b2) s.cbs.coef).1 }
          env := { s.env with i2c := rest, draws := s.env.draws + 2 }
          obs := {
            events := .i2cRead s.cbs.addr s.cfg.cbRegPress 3 (some [c0, c1, c2])
              :: .i2cRead s.cbs.addr s.cfg.cbRegTemp 3 (some [b0, b1, b2]) :: s.obs.events
            responses := [7] :: s.obs.responses } })

/-- Raw values and coefficients are assembled as `30_encoding.md` R109 and `41_bus_sensor.md` R173 say, with their examples. -/
def Obligations.RawValuesAndCoefficientsAreAssembled : Prop :=
  (∀ b0 b1 b2 : Byte, (adcOf b0 b1 b2).toNat = b0.toNat * 4096 + b1.toNat * 16 + b2.toNat / 16)
    ∧ (adcOf 0x7E 0xED 0x00).toNat = 519888
    ∧ (∀ (c : List Byte) (j : Nat), (coeffOf c j).toNat = 256 * (c.getD (2 * j + 1) 0).toNat + (c.getD (2 * j) 0).toNat)
    ∧ (coeffOf [0x70, 0x6B, 0x43, 0x67, 0x18, 0xFC] 0).toNat = 27504
    ∧ (coeffOf [0x70, 0x6B, 0x43, 0x67, 0x18, 0xFC] 1).toInt = 26435
    ∧ (coeffOf [0x70, 0x6B, 0x43, 0x67, 0x18, 0xFC] 2).toInt = -1000

/-- `CompT` wraps nowhere: for every raw value and all coefficients both results are the exact integers, and every intermediate is
within the bound the rule gives; with the rule's worked example (`41_bus_sensor.md` R178). -/
def Obligations.TemperatureIsExact : Prop :=
  (∀ (adc : BitVec 20) (k : Coeffs),
    let raw : Int := adc.toNat
    let exact := exactTemperature raw k.t1.toNat k.t2.toInt k.t3.toInt
    let a := raw / 2 ^ 3 - k.t1.toNat * 2
    let b := raw / 2 ^ 4 - k.t1.toNat
    (compT adc k).1.toInt = exact.1 ∧ (compT adc k).2.toInt = exact.2
      ∧ |a| ≤ 131071 ∧ |a * k.t2.toInt| < 2 ^ 32 ∧ b * b < 2 ^ 32 ∧ |a * k.t2.toInt / 2 ^ 11| ≤ 2097136
      ∧ |b * b / 2 ^ 12 * k.t3.toInt / 2 ^ 14| ≤ 2097088 ∧ |exact.1| < 2 ^ 23 ∧ |exact.2| ≤ 81920)
    ∧ exactTemperature 519888 27504 26435 (-1000) = (128422, 2508)

/-- `CompP` is the formula on integers with `wrap64` after every operator, and fails exactly where its denominator is zero; a zero
`CB_P1` makes it so; with the rule's worked example (`41_bus_sensor.md` R179 to R181). -/
def Obligations.PressureIsTheWrappedFormula : Prop :=
  ∀ (adc : BitVec 20) (tf : Word) (k : Coeffs),
    compP adc tf k
      = (wrappedPressure adc.toNat tf.toInt k.p1.toNat k.p2.toInt k.p3.toInt k.p4.toInt k.p5.toInt k.p6.toInt k.p7.toInt
          k.p8.toInt k.p9.toInt).map (BitVec.ofInt 32)
    ∧ (k.p1 = 0 → compP adc tf k = none)
    ∧ wrappedPressure 415148 128422 36477 (-10685) 3024 2855 140 (-7) 15500 (-14600) 6000 = some 25767233

/-- `ALT_FN` is within the tolerance of the real formula wherever the tolerance leaves room for an integer, a tolerance of 0 where the real
value is itself an integer included, and 0 for equal pressures (`41_bus_sensor.md` R182 (b), (c)). Which value inside the tolerance is free
(log 10). -/
def Obligations.AltitudeIsWithinTolerance : Prop :=
  ∀ (c : Config) (p p0 : Word), p0 ≠ 0 →
    (1 ≤ c.cbAltTol ∨ (∃ A : ℤ, (A : ℝ) = realAltitude p p0) → |((altFn c p p0).toInt : ℝ) - realAltitude p p0| ≤ (c.cbAltTol : ℝ)) ∧ altFn c p0 p0 = 0

/-- `CB_ALTITUDE` reads no register, writes none and makes no bus traffic: it answers its value, or `CompensationError` for a zero
sea-level pressure (`41_bus_sensor.md` R182). -/
def Obligations.AltitudeAnswers : Prop :=
  ∀ (s : State) (p p0 : Word),
    (p0 ≠ 0 → exec (.cbAltitude p p0) s = .next { s with
      busy := false, cbs := { s.cbs with seq := .idle }
      obs := { s.obs with responses := (0 :: wordBytes (altFn s.cfg p p0)) :: s.obs.responses } })
    ∧ (p0 = 0 → exec (.cbAltitude p p0) s = .next { s with
      busy := false, sws := { s.sws with oe := false }, cbs := { s.cbs with seq := .idle }
      obs := { s.obs with responses := [7] :: s.obs.responses } })

/-! ## DSP -/

/-- A display operation other than `DS_NEW` before a completed `DS_NEW` answers `NotReadyError` and sends nothing
(`42_display.md` R220, R225, R226, R230, R235). -/
def Obligations.DisplayNeedsConstruction : Prop :=
  ∀ (i : Instr) (s : State), needsDisplay i = true → s.dsp.ready = false → exec i s = .next (displayRefused 6 s)

/-- `DS_NEW` on a bus that takes every transfer: the hard reset, the sixteen entries in table order each with its delay, the backlight if
present, ready (`42_display.md` R201, R202, R219). -/
def Obligations.InitSequenceRuns : Prop :=
  ∀ (s : State) (answers rest : List SpiAnswer), allOk answers →
    answers.length = (s.cfg.dsInitSeq.toList.map entryTransfers).sum → s.env.spi = answers ++ rest →
    exec .dsNew s = .next { s with
      tick := s.tick + BitVec.ofNat 64 (s.cfg.dsResetLow + s.cfg.dsResetWait
        + (s.cfg.dsInitSeq.toList.map InitEntry.delay).sum + spiTicks answers)
      busy := false
      dsp := { s.dsp with
        seq := .idle, ready := true, stream := false, remain := 0, rstN := true
        dc := decide (s.cfg.dsInitSeq[15].data ≠ []), csN := csAfter s, bl := if s.cfg.dsHasBl then true else s.dsp.bl }
      env := { s.env with spi := rest }
      obs := {
        events := (if s.cfg.dsHasBl then [.pin .bl true] else []) ++ (s.cfg.dsInitSeq.toList.flatMap entryEvents).reverse
          ++ [.delay s.cfg.dsResetWait, .pin .rstN true, .delay s.cfg.dsResetLow, .pin .rstN false] ++ s.obs.events
        responses := [0] :: s.obs.responses } }

/-- `INIT` to the end of `DS_NEW`, and `SetWindow` to the end of `DS_SET_WINDOW`, stepped wire command by wire command (and through `BL` and
`DONE`), are what the two atomic operations do from there, whatever the sink answers. The grain is the model's (log 7). -/
def Obligations.OperationsAreTheirWireCommands : Prop :=
  ∀ s : State, s.busy = true → s.sws.seq = .idle → s.env.port = [] →
    (s.dsp.seq = .init 0 → ∃ n, 1 ≤ n ∧ n ≤ 18 ∧ Sys2Proof.core.run n s
      = .next (((initLoop (List.finRange 16) s).andThen fun t => .ok (dsReady t)).finish .dsp noPayload))
    ∧ ∀ x0 y0 x1 y1 : Half, s.dsp.seq = .caset x0 y0 x1 y1 →
      ∃ n, 1 ≤ n ∧ n ≤ 3 ∧ Sys2Proof.core.run n s = .next ((setWindow x0 y0 x1 y1 s).finish .dsp noPayload)

/-- A request outside the panel, or a push with no open window position, is answered `BoundsError` before any bus traffic, and leaves
the window and the streaming state as they were; a fill never answers it (`60_exceptions.md` R266, `42_display.md` R220, R225). -/
def Obligations.OutOfRangeRequestsAreRefused : Prop :=
  ∀ s : State, s.dsp.ready = true →
    (∀ x0 y0 x1 y1 : Half,
      ¬ (x0.toNat ≤ x1.toNat ∧ x1.toNat < s.cfg.panelW ∧ y0.toNat ≤ y1.toNat ∧ y1.toNat < s.cfg.panelH) →
      exec (.dsSetWindow x0 y0 x1 y1) s = .next (displayRefused 5 s))
    ∧ (∀ x y color : Half, s.cfg.panelW ≤ x.toNat ∨ s.cfg.panelH ≤ y.toNat →
      exec (.dsPixel x y color) s = .next (displayRefused 5 s))
    ∧ (∀ color : Half, s.dsp.stream = false ∨ s.dsp.remain = 0 → exec (.dsPush color) s = .next (displayRefused 5 s))
    ∧ ∀ (x y w h color : Half) (t : State), exec (.dsFillRect x y w h color) s = .next t →
      t.obs.responses ≠ [5] :: s.obs.responses

/-- A legal `DS_SET_WINDOW` makes the five transfers of the encoder and opens the window with its inclusive area; on a legal instance
the area fits its register (`42_display.md` R220 to R224, R228). -/
def Obligations.WindowIsSet : Prop :=
  ∀ (s : State) (x0 y0 x1 y1 : Half) (answers rest : List SpiAnswer), s.dsp.ready = true → x0.toNat ≤ x1.toNat →
    x1.toNat < s.cfg.panelW → y0.toNat ≤ y1.toNat → y1.toNat < s.cfg.panelH → allOk answers → answers.length = 5 →
    s.env.spi = answers ++ rest →
    exec (.dsSetWindow x0 y0 x1 y1) s = .next { s with
      tick := s.tick + BitVec.ofNat 64 (spiTicks answers), busy := false
      dsp := { s.dsp with
        seq := .idle, x0 := x0, y0 := y0, x1 := x1, y1 := y1, stream := true
        remain := BitVec.ofNat 32 (windowArea x0 y0 x1 y1), dc := false, csN := csAfter s }
      env := { s.env with spi := rest }
      obs := {
        events := (windowEvents s.cfg x0 y0 x1 y1).reverse ++ s.obs.events
        responses := [0] :: s.obs.responses } }
    ∧ (s.cfg.Ok → windowArea x0 y0 x1 y1 < 2 ^ 32)

/-- `DS_PUSH` into an open window sends one data transfer of the two bytes of the colour and counts one pixel down
(`42_display.md` R225). -/
def Obligations.PushStreamsOnePixel : Prop :=
  ∀ (s : State) (color : Half) (a : SpiAnswer) (rest : List SpiAnswer), s.dsp.ready = true → s.dsp.stream = true →
    s.dsp.remain ≠ 0 → a.ok = true → s.env.spi = a :: rest →
    exec (.dsPush color) s = .next { s with
      tick := s.tick + BitVec.ofNat 64 a.ticks, busy := false
      dsp := { s.dsp with seq := .idle, remain := s.dsp.remain - 1, dc := true, csN := csAfter s }
      env := { s.env with spi := rest }
      obs := {
        events := .spiData (colorBytes color) true :: s.obs.events, responses := [0] :: s.obs.responses } }

/-- `DS_PIXEL` on the panel sends six transfers, the one-pixel window and the pixel, and leaves the window full
(`42_display.md` R226, R227). -/
def Obligations.PixelIsWritten : Prop :=
  ∀ (s : State) (x y color : Half) (answers rest : List SpiAnswer), s.dsp.ready = true → x.toNat < s.cfg.panelW →
    y.toNat < s.cfg.panelH → allOk answers → answers.length = 6 → s.env.spi = answers ++ rest →
    exec (.dsPixel x y color) s = .next { s with
      tick := s.tick + BitVec.ofNat 64 (spiTicks answers), busy := false
      dsp := { s.dsp with
        seq := .idle, x0 := x, y0 := y, x1 := x, y1 := y, stream := true, remain := 0, dc := true, csN := csAfter s }
      env := { s.env with spi := rest }
      obs := {
        events := .spiData (colorBytes color) true :: (windowEvents s.cfg x y x y).reverse ++ s.obs.events
        responses := [0] :: s.obs.responses } }

/-- `DS_FILL_RECT` of a rectangle with a visible part sets the window to the clamped rectangle and streams its pixels in ⌈n / chunk⌉ data
transfers, full chunks first (`42_display.md` R230 to R232). -/
def Obligations.FillStreamsChunks : Prop :=
  ∀ (s : State) (x y w h color : Half) (answers rest : List SpiAnswer), s.cfg.Ok → s.dsp.ready = true →
    rectVisible s.cfg x y w h → allOk answers →
    answers.length = 5 + (fillEvents (clampedArea s.cfg x y w h) s.cfg.dsChunk color).length →
    s.env.spi = answers ++ rest →
    let x1 := BitVec.ofNat 16 (clampedEnd x.toNat w.toNat s.cfg.panelW)
    let y1 := BitVec.ofNat 16 (clampedEnd y.toNat h.toNat s.cfg.panelH)
    let loaded := min (clampedArea s.cfg x y w h) s.cfg.dsChunk
    exec (.dsFillRect x y w h color) s = .next { s with
      tick := s.tick + BitVec.ofNat 64 (spiTicks answers), busy := false
      dsp := { s.dsp with
        seq := .idle, x0 := x, y0 := y, x1 := x1, y1 := y1, stream := true, remain := 0
        chunk := List.replicate loaded color ++ s.dsp.chunk.drop loaded, dc := true, csN := csAfter s }
      env := { s.env with spi := rest }
      obs := {
        events := (windowEvents s.cfg x y x1 y1 ++ fillEvents (clampedArea s.cfg x y w h) s.cfg.dsChunk color).reverse
          ++ s.obs.events
        responses := [0] :: s.obs.responses } }
    ∧ (fillEvents (clampedArea s.cfg x y w h) s.cfg.dsChunk color).length
      = (clampedArea s.cfg x y w h + s.cfg.dsChunk - 1) / s.cfg.dsChunk

/-- A rectangle with a zero side or an origin outside the panel succeeds with no traffic at all (`42_display.md` R230, R231). -/
def Obligations.FillOfNothingSendsNothing : Prop :=
  ∀ (s : State) (x y w h color : Half), s.dsp.ready = true → ¬ rectVisible s.cfg x y w h →
    exec (.dsFillRect x y w h color) s = .next { s with
      busy := false, dsp := { s.dsp with seq := .idle }
      obs := { s.obs with responses := [0] :: s.obs.responses } }

/-- `DS_DRAW_TEXT` whose pixel calls all fall on the panel makes exactly those calls, in scan order, six transfers each, and leaves the
cursor after the last printable character (`42_display.md` R235 to R238, R240). -/
def Obligations.TextDrawsItsPixels : Prop :=
  ∀ (s : State) (x y color : Half) (hasBg : Bool) (bg : Half) (text : List Byte) (answers rest : List SpiAnswer),
    let calls := textCalls s.cfg x.toNat color hasBg bg x.toNat y.toNat text
    let cursor := textCursor s.cfg x.toNat x.toNat y.toNat text
    s.cfg.Ok → s.dsp.ready = true → text.length ≤ 255 → (∀ p ∈ calls, callInside s.cfg p) → allOk answers →
    answers.length = 6 * calls.length → s.env.spi = answers ++ rest →
    ∃ t, exec (.dsDrawText x y color hasBg bg text) s = .next t
      ∧ t.obs = {
          events := (calls.flatMap fun p => pixelEvents s.cfg p.1 p.2.1 p.2.2).reverse ++ s.obs.events
          responses := [0] :: s.obs.responses }
      ∧ t.tick = s.tick + BitVec.ofNat 64 (spiTicks answers) ∧ t.busy = false ∧ t.env = { s.env with spi := rest }
      ∧ t.cfg = s.cfg ∧ t.sws = s.sws ∧ t.cbs = s.cbs
      ∧ t.dsp.cx.toNat = cursor.1 ∧ t.dsp.cy.toNat = cursor.2
      ∧ t.dsp = { s.dsp with
          seq := .idle, x0 := (windowAfter s.dsp calls).1, y0 := (windowAfter s.dsp calls).2.1
          x1 := (windowAfter s.dsp calls).2.2.1, y1 := (windowAfter s.dsp calls).2.2.2
          stream := if calls = [] then s.dsp.stream else true, remain := if calls = [] then s.dsp.remain else 0
          dc := if calls = [] then s.dsp.dc else true, csN := if calls = [] then s.dsp.csN else csAfter s
          cx := t.dsp.cx, cy := t.dsp.cy, ox := x, row := t.dsp.row, col := t.dsp.col }

/-- The first pixel of a text outside the panel ends it with `BoundsError`, after all earlier pixels have been sent and none later
(`42_display.md` R239). -/
def Obligations.TextStopsAtTheFirstPixelOutside : Prop :=
  ∀ (s : State) (x y color : Half) (hasBg : Bool) (bg : Half) (text : List Byte) (before after : List Call) (p : Call)
    (answers rest : List SpiAnswer), s.cfg.Ok → s.dsp.ready = true → text.length ≤ 255 →
    textCalls s.cfg x.toNat color hasBg bg x.toNat y.toNat text = before ++ p :: after →
    (∀ q ∈ before, callInside s.cfg q) → ¬ callInside s.cfg p → allOk answers → answers.length = 6 * before.length →
    s.env.spi = answers ++ rest →
    ∃ t, exec (.dsDrawText x y color hasBg bg text) s = .next t
      ∧ t.obs = {
          events := (before.flatMap fun q => pixelEvents s.cfg q.1 q.2.1 q.2.2).reverse ++ s.obs.events
          responses := [5] :: s.obs.responses }
      ∧ t.tick = s.tick + BitVec.ofNat 64 (spiTicks answers) ∧ t.busy = false ∧ t.env = { s.env with spi := rest }
      ∧ t.cfg = s.cfg ∧ t.sws = { s.sws with oe := false } ∧ t.cbs = s.cbs ∧ t.dsp.seq = .idle ∧ t.dsp.ready = true
      ∧ t.dsp.chunk = s.dsp.chunk ∧ t.dsp.rstN = s.dsp.rstN ∧ t.dsp.bl = s.dsp.bl

/-- A display operation or wire command that ends in `BusError` has dropped the streaming state; `DS_BL` stays, and `DS_READY` stays but
for the `DS_READY` that `DS_NEW` itself had cleared (`42_display.md` R200, R201). -/
def Obligations.FailedTransferDropsTheStream : Prop :=
  ∀ (i : Instr) (s t : State), isSws i = false → isCbs i = false → exec i s = .next t →
    t.obs.responses = [4] :: s.obs.responses →
    t.dsp.stream = false ∧ t.dsp.remain = 0 ∧ t.dsp.bl = s.dsp.bl ∧ t.dsp.seq = .idle ∧ t.busy = false
      ∧ (i = .dsNew → t.dsp.ready = false) ∧ (i ≠ .dsNew → t.dsp.ready = s.dsp.ready)

/-- The traffic of a failed display operation is a prefix of the traffic of the same operation succeeding against a friendlier sink: if
the operation succeeds on the answers `good`, then with the answer after the first k of them a failure it stops at that transfer, with
all that came before it and nothing after (`60_exceptions.md` R271). -/
def Obligations.FailedTrafficIsAPrefix : Prop :=
  ∀ (i : Instr) (s t : State) (good : List SpiAnswer) (k : Nat) (bad : SpiAnswer) (rest : List SpiAnswer),
    isSws i = false → isCbs i = false → i.isCommand = true →
    exec i { s with env := { s.env with spi := good } } = .next t → t.obs.responses = [0] :: s.obs.responses →
    t.env.spi = [] → k < good.length → bad.ok = false →
    ∃ before e after u, t.obs.events = after ++ e :: before ++ s.obs.events ∧ isTransfer e = true
      ∧ (before.filter isTransfer).length = k
      ∧ exec i { s with env := { s.env with spi := good.take k ++ bad :: rest } } = .next u
      ∧ u.obs.responses = [4] :: s.obs.responses ∧ u.obs.events = failedForm e :: before ++ s.obs.events
      ∧ u.env.spi = rest

/-- Each of the sixteen initialization commands sends its entry of the table: one command transfer, one data transfer if it has
parameter bytes, its settle delay; nothing else changes (`42_display.md` R201, R203 to R218). -/
def Obligations.InitCommandsAreSent : Prop :=
  ∀ (i : Instr) (k : Fin 16) (s : State) (answers rest : List SpiAnswer), (i, k) ∈ initCommands → allOk answers →
    answers.length = entryTransfers s.cfg.dsInitSeq[k] → s.env.spi = answers ++ rest →
    exec i s = .next { s with
      tick := s.tick + BitVec.ofNat 64 (spiTicks answers + s.cfg.dsInitSeq[k].delay)
      dsp := { s.dsp with dc := decide (s.cfg.dsInitSeq[k].data ≠ []), csN := csAfter s }
      env := { s.env with spi := rest }
      obs := { s.obs with events := (entryEvents s.cfg.dsInitSeq[k]).reverse ++ s.obs.events } }

/-- The address commands send their opcode and their bounds, each high byte first; memory-write sends its opcode alone
(`42_display.md` R222 to R224, `30_encoding.md` R112). -/
def Obligations.AddressCommandsAreSent : Prop :=
  ∀ (s : State) (a b : SpiAnswer) (rest : List SpiAnswer), a.ok = true → b.ok = true →
    (s.env.spi = a :: b :: rest → ∀ lo hi : Half,
      exec (.dsOpCaset lo hi) s = .next { s with
        tick := s.tick + BitVec.ofNat 64 (a.ticks + b.ticks)
        dsp := { s.dsp with dc := true, csN := csAfter s }, env := { s.env with spi := rest }
        obs := { s.obs with
          events := .spiData [lo.extractLsb' 8 8, lo.extractLsb' 0 8, hi.extractLsb' 8 8, hi.extractLsb' 0 8] true
            :: .spiCmd s.cfg.dsOpCaset true :: s.obs.events } }
      ∧ exec (.dsOpRaset lo hi) s = .next { s with
        tick := s.tick + BitVec.ofNat 64 (a.ticks + b.ticks)
        dsp := { s.dsp with dc := true, csN := csAfter s }, env := { s.env with spi := rest }
        obs := { s.obs with
          events := .spiData [lo.extractLsb' 8 8, lo.extractLsb' 0 8, hi.extractLsb' 8 8, hi.extractLsb' 0 8] true
            :: .spiCmd s.cfg.dsOpRaset true :: s.obs.events } })
    ∧ (s.env.spi = a :: rest →
      exec .dsOpRamwr s = .next { s with
        tick := s.tick + BitVec.ofNat 64 a.ticks
        dsp := { s.dsp with dc := false, csN := csAfter s }, env := { s.env with spi := rest }
        obs := { s.obs with events := .spiCmd s.cfg.dsOpRamwr true :: s.obs.events } })

/-! ## What the display shows -/

/-- A fill that succeeds paints exactly the part of its rectangle inside the panel, in a well-behaved controller
(`42_display.md` R230, R231; `20_memory.md` R68). -/
def Obligations.FillPaintsTheRectangle : Prop :=
  ∀ (s t : State) (x y w h color : Half) (px py : Nat), s.cfg.Ok → s.cfg.AddressOpsDistinct → s.dsp.ready = true →
    exec (.dsFillRect x y w h color) s = .next t → t.obs.responses = [0] :: s.obs.responses →
    shown t px py
      = if x.toNat ≤ px ∧ px < min (x.toNat + w.toNat) s.cfg.panelW ∧ y.toNat ≤ py
            ∧ py < min (y.toNat + h.toNat) s.cfg.panelH
        then some color else shown s px py

/-- The n-th push after a `DS_SET_WINDOW` lands at column x0 + (n − 1) mod width, row y0 + (n − 1) div width, and no other pixel
changes (`42_display.md` R225; `20_memory.md` R68). -/
def Obligations.PushesLandInRowOrder : Prop :=
  ∀ (s m t : State) (x0 y0 x1 y1 : Half) (colors : List Half), s.cfg.Ok → s.cfg.AddressOpsDistinct →
    exec (.dsSetWindow x0 y0 x1 y1) s = .next m → m.obs.responses = [0] :: s.obs.responses →
    colors.length ≤ windowArea x0 y0 x1 y1 → pushAll colors m = some t →
    t.obs.responses = List.replicate colors.length [0] ++ m.obs.responses →
    (∀ n (h : n < colors.length),
      shown t (x0.toNat + n % (x1.toNat - x0.toNat + 1)) (y0.toNat + n / (x1.toNat - x0.toNat + 1)) = some colors[n])
    ∧ ∀ px py, (∀ n, n < colors.length →
        (px, py) ≠ (x0.toNat + n % (x1.toNat - x0.toNat + 1), y0.toNat + n / (x1.toNat - x0.toNat + 1))) →
      shown t px py = shown s px py

/-- One printable character touches no pixel outside its 8×8 cell, whether or not its operation succeeds; where it succeeds, a set bit
shows the colour, and an unset bit shows the background if one was given and what was there before if not
(`42_display.md` R235, R236; `20_memory.md` R68). What the display shows after a transfer that failed is the model's presumption: the
controller has not received it (log 22). -/
def Obligations.GlyphTouchesOnlyItsCell : Prop :=
  ∀ (s t : State) (x y color : Half) (hasBg : Bool) (bg : Half) (ch : Byte), s.cfg.Ok → s.cfg.AddressOpsDistinct →
    32 ≤ ch.toNat → ch.toNat ≤ 126 → exec (.dsDrawText x y color hasBg bg [ch]) s = .next t →
    (∀ px py, ¬ (x.toNat ≤ px ∧ px < x.toNat + 8 ∧ y.toNat ≤ py ∧ py < y.toNat + 8) → shown t px py = shown s px py)
    ∧ (t.obs.responses = [0] :: s.obs.responses → ∀ row col, row < 8 → col < 8 →
      shown t (x.toNat + col) (y.toNat + row)
        = if fontBit s.cfg (ch.toNat - 32) row col then some color
          else if hasBg then some bg else shown s (x.toNat + col) (y.toNat + row))

/-! ## The sequencers, statement by statement -/

/-- Stepped statement by statement from its first label, an operation does what its command does at once, whatever the buses answer:
`CB_NEW` from `ENTRY`, `CB_READ` from `CHECK`, `DS_NEW` from `ENTRY`, a `DS_FILL_RECT` of a ready display from `CLAMP`, each in a bounded
number of steps (`10_state.md` R22, R46; `41_bus_sensor.md` R171, R176; `42_display.md` R201, R230). The grain is the model's (log 7,
log 8). -/
def Obligations.CommandsAreTheirStatements : Prop :=
  ∀ s : State, s.busy = true → s.sws.seq = .idle → s.env.port = [] →
    (∀ addr, s.dsp.seq = .idle → s.cbs.seq = .entry addr →
      ∃ n, 1 ≤ n ∧ n ≤ 6 ∧ Sys2Proof.core.run n s = exec (.cbNew addr) s)
    ∧ (s.dsp.seq = .idle → s.cbs.seq = .check → ∃ n, 1 ≤ n ∧ n ≤ 6 ∧ Sys2Proof.core.run n s = exec .cbRead s)
    ∧ (s.dsp.seq = .entry → ∃ n, 1 ≤ n ∧ n ≤ 20 ∧ Sys2Proof.core.run n s = exec .dsNew s)
    ∧ ∀ x y w h color : Half, s.cfg.Ok → s.dsp.ready = true → s.dsp.seq = .clamp x y w h color →
      ∃ n, 1 ≤ n ∧ n ≤ 4 + (clampedArea s.cfg x y w h + s.cfg.dsChunk - 1) / s.cfg.dsChunk
        ∧ Sys2Proof.core.run n s = exec (.dsFillRect x y w h color) s
end

