-- ==== Sys2Proof/Laws/State.lean ====
section
/-! SUPPORT. One lemma per component of State per update, true by rfl: no later proof unfolds a record update. -/

namespace Sys2Proof.Machine

@[simp] theorem tickBy_cfg (n : Nat) (s : State) : (s.tickBy n).cfg = s.cfg := rfl
@[simp] theorem tickBy_tick (n : Nat) (s : State) : (s.tickBy n).tick = s.tick + BitVec.ofNat 64 n := rfl
@[simp] theorem tickBy_busy (n : Nat) (s : State) : (s.tickBy n).busy = s.busy := rfl
@[simp] theorem tickBy_sws (n : Nat) (s : State) : (s.tickBy n).sws = s.sws := rfl
@[simp] theorem tickBy_cbs (n : Nat) (s : State) : (s.tickBy n).cbs = s.cbs := rfl
@[simp] theorem tickBy_dsp (n : Nat) (s : State) : (s.tickBy n).dsp = s.dsp := rfl
@[simp] theorem tickBy_env (n : Nat) (s : State) : (s.tickBy n).env = s.env := rfl
@[simp] theorem tickBy_obs (n : Nat) (s : State) : (s.tickBy n).obs = s.obs := rfl

@[simp] theorem log_cfg (e : Event) (s : State) : (s.log e).cfg = s.cfg := rfl
@[simp] theorem log_tick (e : Event) (s : State) : (s.log e).tick = s.tick := rfl
@[simp] theorem log_busy (e : Event) (s : State) : (s.log e).busy = s.busy := rfl
@[simp] theorem log_sws (e : Event) (s : State) : (s.log e).sws = s.sws := rfl
@[simp] theorem log_cbs (e : Event) (s : State) : (s.log e).cbs = s.cbs := rfl
@[simp] theorem log_dsp (e : Event) (s : State) : (s.log e).dsp = s.dsp := rfl
@[simp] theorem log_env (e : Event) (s : State) : (s.log e).env = s.env := rfl
@[simp] theorem log_obs (e : Event) (s : State) : (s.log e).obs = { s.obs with events := e :: s.obs.events } := rfl

@[simp] theorem delay_cfg (n : Nat) (s : State) : (delay n s).cfg = s.cfg := rfl
@[simp] theorem delay_tick (n : Nat) (s : State) : (delay n s).tick = s.tick + BitVec.ofNat 64 n := rfl
@[simp] theorem delay_busy (n : Nat) (s : State) : (delay n s).busy = s.busy := rfl
@[simp] theorem delay_sws (n : Nat) (s : State) : (delay n s).sws = s.sws := rfl
@[simp] theorem delay_cbs (n : Nat) (s : State) : (delay n s).cbs = s.cbs := rfl
@[simp] theorem delay_dsp (n : Nat) (s : State) : (delay n s).dsp = s.dsp := rfl
@[simp] theorem delay_env (n : Nat) (s : State) : (delay n s).env = s.env := rfl
@[simp] theorem delay_obs (n : Nat) (s : State) : (delay n s).obs = { s.obs with events := .delay n :: s.obs.events } := rfl

@[simp] theorem swAt_cfg (q : SwSeq) (s : State) : (s.swAt q).cfg = s.cfg := rfl
@[simp] theorem swAt_tick (q : SwSeq) (s : State) : (s.swAt q).tick = s.tick := rfl
@[simp] theorem swAt_busy (q : SwSeq) (s : State) : (s.swAt q).busy = s.busy := rfl
@[simp] theorem swAt_sws (q : SwSeq) (s : State) : (s.swAt q).sws = { s.sws with seq := q } := rfl
@[simp] theorem swAt_cbs (q : SwSeq) (s : State) : (s.swAt q).cbs = s.cbs := rfl
@[simp] theorem swAt_dsp (q : SwSeq) (s : State) : (s.swAt q).dsp = s.dsp := rfl
@[simp] theorem swAt_env (q : SwSeq) (s : State) : (s.swAt q).env = s.env := rfl
@[simp] theorem swAt_obs (q : SwSeq) (s : State) : (s.swAt q).obs = s.obs := rfl

@[simp] theorem cbAt_cfg (q : CbSeq) (s : State) : (s.cbAt q).cfg = s.cfg := rfl
@[simp] theorem cbAt_tick (q : CbSeq) (s : State) : (s.cbAt q).tick = s.tick := rfl
@[simp] theorem cbAt_busy (q : CbSeq) (s : State) : (s.cbAt q).busy = s.busy := rfl
@[simp] theorem cbAt_sws (q : CbSeq) (s : State) : (s.cbAt q).sws = s.sws := rfl
@[simp] theorem cbAt_cbs (q : CbSeq) (s : State) : (s.cbAt q).cbs = { s.cbs with seq := q } := rfl
@[simp] theorem cbAt_dsp (q : CbSeq) (s : State) : (s.cbAt q).dsp = s.dsp := rfl
@[simp] theorem cbAt_env (q : CbSeq) (s : State) : (s.cbAt q).env = s.env := rfl
@[simp] theorem cbAt_obs (q : CbSeq) (s : State) : (s.cbAt q).obs = s.obs := rfl

@[simp] theorem dsAt_cfg (q : DsSeq) (s : State) : (s.dsAt q).cfg = s.cfg := rfl
@[simp] theorem dsAt_tick (q : DsSeq) (s : State) : (s.dsAt q).tick = s.tick := rfl
@[simp] theorem dsAt_busy (q : DsSeq) (s : State) : (s.dsAt q).busy = s.busy := rfl
@[simp] theorem dsAt_sws (q : DsSeq) (s : State) : (s.dsAt q).sws = s.sws := rfl
@[simp] theorem dsAt_cbs (q : DsSeq) (s : State) : (s.dsAt q).cbs = s.cbs := rfl
@[simp] theorem dsAt_dsp (q : DsSeq) (s : State) : (s.dsAt q).dsp = { s.dsp with seq := q } := rfl
@[simp] theorem dsAt_env (q : DsSeq) (s : State) : (s.dsAt q).env = s.env := rfl
@[simp] theorem dsAt_obs (q : DsSeq) (s : State) : (s.dsAt q).obs = s.obs := rfl

@[simp] theorem answer_cfg (r : List Byte) (s : State) : (s.answer r).cfg = s.cfg := rfl
@[simp] theorem answer_tick (r : List Byte) (s : State) : (s.answer r).tick = s.tick := rfl
@[simp] theorem answer_busy (r : List Byte) (s : State) : (s.answer r).busy = false := rfl
@[simp] theorem answer_sws (r : List Byte) (s : State) : (s.answer r).sws = s.sws := rfl
@[simp] theorem answer_cbs (r : List Byte) (s : State) : (s.answer r).cbs = s.cbs := rfl
@[simp] theorem answer_dsp (r : List Byte) (s : State) : (s.answer r).dsp = s.dsp := rfl
@[simp] theorem answer_env (r : List Byte) (s : State) : (s.answer r).env = s.env := rfl
@[simp] theorem answer_obs (r : List Byte) (s : State) :
    (s.answer r).obs =
      { s.obs with responses := r :: s.obs.responses } := rfl

@[simp] theorem respond_sws_cfg (p : List Byte) (s : State) : (s.respond .sws p).cfg = s.cfg := rfl
@[simp] theorem respond_sws_tick (p : List Byte) (s : State) : (s.respond .sws p).tick = s.tick := rfl
@[simp] theorem respond_sws_busy (p : List Byte) (s : State) : (s.respond .sws p).busy = false := rfl
@[simp] theorem respond_sws_sws (p : List Byte) (s : State) : (s.respond .sws p).sws = { s.sws with seq := .idle } := rfl
@[simp] theorem respond_sws_cbs (p : List Byte) (s : State) : (s.respond .sws p).cbs = s.cbs := rfl
@[simp] theorem respond_sws_dsp (p : List Byte) (s : State) : (s.respond .sws p).dsp = s.dsp := rfl
@[simp] theorem respond_sws_env (p : List Byte) (s : State) : (s.respond .sws p).env = s.env := rfl
@[simp] theorem respond_sws_obs (p : List Byte) (s : State) :
    (s.respond .sws p).obs =
      { s.obs with responses := (Status.ok.code :: p) :: s.obs.responses } := rfl

@[simp] theorem respond_cbs_cfg (p : List Byte) (s : State) : (s.respond .cbs p).cfg = s.cfg := rfl
@[simp] theorem respond_cbs_tick (p : List Byte) (s : State) : (s.respond .cbs p).tick = s.tick := rfl
@[simp] theorem respond_cbs_busy (p : List Byte) (s : State) : (s.respond .cbs p).busy = false := rfl
@[simp] theorem respond_cbs_sws (p : List Byte) (s : State) : (s.respond .cbs p).sws = s.sws := rfl
@[simp] theorem respond_cbs_cbs (p : List Byte) (s : State) : (s.respond .cbs p).cbs = { s.cbs with seq := .idle } := rfl
@[simp] theorem respond_cbs_dsp (p : List Byte) (s : State) : (s.respond .cbs p).dsp = s.dsp := rfl
@[simp] theorem respond_cbs_env (p : List Byte) (s : State) : (s.respond .cbs p).env = s.env := rfl
@[simp] theorem respond_cbs_obs (p : List Byte) (s : State) :
    (s.respond .cbs p).obs =
      { s.obs with responses := (Status.ok.code :: p) :: s.obs.responses } := rfl

@[simp] theorem respond_dsp_cfg (p : List Byte) (s : State) : (s.respond .dsp p).cfg = s.cfg := rfl
@[simp] theorem respond_dsp_tick (p : List Byte) (s : State) : (s.respond .dsp p).tick = s.tick := rfl
@[simp] theorem respond_dsp_busy (p : List Byte) (s : State) : (s.respond .dsp p).busy = false := rfl
@[simp] theorem respond_dsp_sws (p : List Byte) (s : State) : (s.respond .dsp p).sws = s.sws := rfl
@[simp] theorem respond_dsp_cbs (p : List Byte) (s : State) : (s.respond .dsp p).cbs = s.cbs := rfl
@[simp] theorem respond_dsp_dsp (p : List Byte) (s : State) : (s.respond .dsp p).dsp = { s.dsp with seq := .idle } := rfl
@[simp] theorem respond_dsp_env (p : List Byte) (s : State) : (s.respond .dsp p).env = s.env := rfl
@[simp] theorem respond_dsp_obs (p : List Byte) (s : State) :
    (s.respond .dsp p).obs =
      { s.obs with responses := (Status.ok.code :: p) :: s.obs.responses } := rfl

@[simp] theorem fail_sws_cfg (e : Status) (s : State) : (s.fail .sws e).cfg = s.cfg := rfl
@[simp] theorem fail_sws_tick (e : Status) (s : State) : (s.fail .sws e).tick = s.tick := rfl
@[simp] theorem fail_sws_busy (e : Status) (s : State) : (s.fail .sws e).busy = false := rfl
@[simp] theorem fail_sws_sws (e : Status) (s : State) : (s.fail .sws e).sws = { s.sws with seq := .idle, oe := false } := rfl
@[simp] theorem fail_sws_cbs (e : Status) (s : State) : (s.fail .sws e).cbs = s.cbs := rfl
@[simp] theorem fail_sws_dsp (e : Status) (s : State) : (s.fail .sws e).dsp = s.dsp := rfl
@[simp] theorem fail_sws_env (e : Status) (s : State) : (s.fail .sws e).env = s.env := rfl
@[simp] theorem fail_sws_obs (e : Status) (s : State) :
    (s.fail .sws e).obs =
      { s.obs with responses := [e.code] :: s.obs.responses } := rfl

@[simp] theorem fail_cbs_cfg (e : Status) (s : State) : (s.fail .cbs e).cfg = s.cfg := rfl
@[simp] theorem fail_cbs_tick (e : Status) (s : State) : (s.fail .cbs e).tick = s.tick := rfl
@[simp] theorem fail_cbs_busy (e : Status) (s : State) : (s.fail .cbs e).busy = false := rfl
@[simp] theorem fail_cbs_sws (e : Status) (s : State) : (s.fail .cbs e).sws = { s.sws with oe := false } := rfl
@[simp] theorem fail_cbs_cbs (e : Status) (s : State) : (s.fail .cbs e).cbs = { s.cbs with seq := .idle } := rfl
@[simp] theorem fail_cbs_dsp (e : Status) (s : State) : (s.fail .cbs e).dsp = s.dsp := rfl
@[simp] theorem fail_cbs_env (e : Status) (s : State) : (s.fail .cbs e).env = s.env := rfl
@[simp] theorem fail_cbs_obs (e : Status) (s : State) :
    (s.fail .cbs e).obs =
      { s.obs with responses := [e.code] :: s.obs.responses } := rfl

@[simp] theorem fail_dsp_cfg (e : Status) (s : State) : (s.fail .dsp e).cfg = s.cfg := rfl
@[simp] theorem fail_dsp_tick (e : Status) (s : State) : (s.fail .dsp e).tick = s.tick := rfl
@[simp] theorem fail_dsp_busy (e : Status) (s : State) : (s.fail .dsp e).busy = false := rfl
@[simp] theorem fail_dsp_sws (e : Status) (s : State) : (s.fail .dsp e).sws = { s.sws with oe := false } := rfl
@[simp] theorem fail_dsp_cbs (e : Status) (s : State) : (s.fail .dsp e).cbs = s.cbs := rfl
@[simp] theorem fail_dsp_dsp (e : Status) (s : State) : (s.fail .dsp e).dsp = { s.dsp with seq := .idle } := rfl
@[simp] theorem fail_dsp_env (e : Status) (s : State) : (s.fail .dsp e).env = s.env := rfl
@[simp] theorem fail_dsp_obs (e : Status) (s : State) :
    (s.fail .dsp e).obs =
      { s.obs with responses := [e.code] :: s.obs.responses } := rfl

@[simp] theorem lineDrive_cfg (v : Bool) (s : State) : (lineDrive v s).cfg = s.cfg := rfl
@[simp] theorem lineDrive_tick (v : Bool) (s : State) : (lineDrive v s).tick = s.tick := rfl
@[simp] theorem lineDrive_busy (v : Bool) (s : State) : (lineDrive v s).busy = s.busy := rfl
@[simp] theorem lineDrive_sws (v : Bool) (s : State) : (lineDrive v s).sws = { s.sws with oe := true, out := v } := rfl
@[simp] theorem lineDrive_cbs (v : Bool) (s : State) : (lineDrive v s).cbs = s.cbs := rfl
@[simp] theorem lineDrive_dsp (v : Bool) (s : State) : (lineDrive v s).dsp = s.dsp := rfl
@[simp] theorem lineDrive_env (v : Bool) (s : State) : (lineDrive v s).env = s.env := rfl
@[simp] theorem lineDrive_obs (v : Bool) (s : State) :
    (lineDrive v s).obs =
      { s.obs with events := .lineDrive v :: s.obs.events } := rfl

@[simp] theorem lineRelease_cfg (s : State) : (lineRelease s).cfg = s.cfg := rfl
@[simp] theorem lineRelease_tick (s : State) : (lineRelease s).tick = s.tick := rfl
@[simp] theorem lineRelease_busy (s : State) : (lineRelease s).busy = s.busy := rfl
@[simp] theorem lineRelease_sws (s : State) : (lineRelease s).sws = { s.sws with oe := false } := rfl
@[simp] theorem lineRelease_cbs (s : State) : (lineRelease s).cbs = s.cbs := rfl
@[simp] theorem lineRelease_dsp (s : State) : (lineRelease s).dsp = s.dsp := rfl
@[simp] theorem lineRelease_env (s : State) : (lineRelease s).env = s.env := rfl
@[simp] theorem lineRelease_obs (s : State) : (lineRelease s).obs = { s.obs with events := .lineRelease :: s.obs.events } := rfl

@[simp] theorem withPort_cfg (m : List HostMove) (s : State) : (s.withPort m).cfg = s.cfg := rfl
@[simp] theorem withPort_tick (m : List HostMove) (s : State) : (s.withPort m).tick = s.tick := rfl
@[simp] theorem withPort_busy (m : List HostMove) (s : State) : (s.withPort m).busy = s.busy := rfl
@[simp] theorem withPort_sws (m : List HostMove) (s : State) : (s.withPort m).sws = s.sws := rfl
@[simp] theorem withPort_cbs (m : List HostMove) (s : State) : (s.withPort m).cbs = s.cbs := rfl
@[simp] theorem withPort_dsp (m : List HostMove) (s : State) : (s.withPort m).dsp = s.dsp := rfl
@[simp] theorem withPort_env (m : List HostMove) (s : State) : (s.withPort m).env = { s.env with port := m } := rfl
@[simp] theorem withPort_obs (m : List HostMove) (s : State) : (s.withPort m).obs = s.obs := rfl

@[simp] theorem accept_cfg (s : State) : (s.accept).cfg = s.cfg := rfl
@[simp] theorem accept_tick (s : State) : (s.accept).tick = s.tick := rfl
@[simp] theorem accept_busy (s : State) : (s.accept).busy = true := rfl
@[simp] theorem accept_sws (s : State) : (s.accept).sws = s.sws := rfl
@[simp] theorem accept_cbs (s : State) : (s.accept).cbs = s.cbs := rfl
@[simp] theorem accept_dsp (s : State) : (s.accept).dsp = s.dsp := rfl
@[simp] theorem accept_env (s : State) : (s.accept).env = s.env := rfl
@[simp] theorem accept_obs (s : State) : (s.accept).obs = s.obs := rfl

@[simp] theorem dropStream_cfg (s : State) : (dropStream s).cfg = s.cfg := rfl
@[simp] theorem dropStream_tick (s : State) : (dropStream s).tick = s.tick := rfl
@[simp] theorem dropStream_busy (s : State) : (dropStream s).busy = s.busy := rfl
@[simp] theorem dropStream_sws (s : State) : (dropStream s).sws = s.sws := rfl
@[simp] theorem dropStream_cbs (s : State) : (dropStream s).cbs = s.cbs := rfl
@[simp] theorem dropStream_dsp (s : State) : (dropStream s).dsp = { s.dsp with stream := false, remain := 0 } := rfl
@[simp] theorem dropStream_env (s : State) : (dropStream s).env = s.env := rfl
@[simp] theorem dropStream_obs (s : State) : (dropStream s).obs = s.obs := rfl

@[simp] theorem setRstN_cfg (v : Bool) (s : State) : (setRstN v s).cfg = s.cfg := rfl
@[simp] theorem setRstN_tick (v : Bool) (s : State) : (setRstN v s).tick = s.tick := rfl
@[simp] theorem setRstN_busy (v : Bool) (s : State) : (setRstN v s).busy = s.busy := rfl
@[simp] theorem setRstN_sws (v : Bool) (s : State) : (setRstN v s).sws = s.sws := rfl
@[simp] theorem setRstN_cbs (v : Bool) (s : State) : (setRstN v s).cbs = s.cbs := rfl
@[simp] theorem setRstN_dsp (v : Bool) (s : State) : (setRstN v s).dsp = { s.dsp with rstN := v } := rfl
@[simp] theorem setRstN_env (v : Bool) (s : State) : (setRstN v s).env = s.env := rfl
@[simp] theorem setRstN_obs (v : Bool) (s : State) :
    (setRstN v s).obs =
      { s.obs with events := .pin .rstN v :: s.obs.events } := rfl

@[simp] theorem setBl_cfg (v : Bool) (s : State) : (setBl v s).cfg = s.cfg := rfl
@[simp] theorem setBl_tick (v : Bool) (s : State) : (setBl v s).tick = s.tick := rfl
@[simp] theorem setBl_busy (v : Bool) (s : State) : (setBl v s).busy = s.busy := rfl
@[simp] theorem setBl_sws (v : Bool) (s : State) : (setBl v s).sws = s.sws := rfl
@[simp] theorem setBl_cbs (v : Bool) (s : State) : (setBl v s).cbs = s.cbs := rfl
@[simp] theorem setBl_dsp (v : Bool) (s : State) : (setBl v s).dsp = { s.dsp with bl := v } := rfl
@[simp] theorem setBl_env (v : Bool) (s : State) : (setBl v s).env = s.env := rfl
@[simp] theorem setBl_obs (v : Bool) (s : State) : (setBl v s).obs = { s.obs with events := .pin .bl v :: s.obs.events } := rfl

@[simp] theorem swCount_cfg (n : Nat) (s : State) : (s.swCount n).cfg = s.cfg := rfl
@[simp] theorem swCount_tick (n : Nat) (s : State) : (s.swCount n).tick = s.tick := rfl
@[simp] theorem swCount_busy (n : Nat) (s : State) : (s.swCount n).busy = s.busy := rfl
@[simp] theorem swCount_sws (n : Nat) (s : State) : (s.swCount n).sws = { s.sws with cnt := n } := rfl
@[simp] theorem swCount_cbs (n : Nat) (s : State) : (s.swCount n).cbs = s.cbs := rfl
@[simp] theorem swCount_dsp (n : Nat) (s : State) : (s.swCount n).dsp = s.dsp := rfl
@[simp] theorem swCount_env (n : Nat) (s : State) : (s.swCount n).env = s.env := rfl
@[simp] theorem swCount_obs (n : Nat) (s : State) : (s.swCount n).obs = s.obs := rfl

@[simp] theorem firstBit_cfg (s : State) : (firstBit s).cfg = s.cfg := rfl
@[simp] theorem firstBit_tick (s : State) : (firstBit s).tick = s.tick := rfl
@[simp] theorem firstBit_busy (s : State) : (firstBit s).busy = s.busy := rfl
@[simp] theorem firstBit_sws (s : State) : (firstBit s).sws = { s.sws with bit := 0 } := rfl
@[simp] theorem firstBit_cbs (s : State) : (firstBit s).cbs = s.cbs := rfl
@[simp] theorem firstBit_dsp (s : State) : (firstBit s).dsp = s.dsp := rfl
@[simp] theorem firstBit_env (s : State) : (firstBit s).env = s.env := rfl
@[simp] theorem firstBit_obs (s : State) : (firstBit s).obs = s.obs := rfl

@[simp] theorem storeBit_cfg (s : State) : (storeBit s).cfg = s.cfg := rfl
@[simp] theorem storeBit_tick (s : State) : (storeBit s).tick = s.tick := rfl
@[simp] theorem storeBit_busy (s : State) : (storeBit s).busy = s.busy := rfl
@[simp] theorem storeBit_sws (s : State) :
    (storeBit s).sws =
      { s.sws with buf := storeFrameBit s.sws.buf s.sws.bit (bitOf s.cfg s.sws.cnt), bit := s.sws.bit + 1 } := rfl
@[simp] theorem storeBit_cbs (s : State) : (storeBit s).cbs = s.cbs := rfl
@[simp] theorem storeBit_dsp (s : State) : (storeBit s).dsp = s.dsp := rfl
@[simp] theorem storeBit_env (s : State) : (storeBit s).env = s.env := rfl
@[simp] theorem storeBit_obs (s : State) : (storeBit s).obs = s.obs := rfl

@[simp] theorem commitReading_cfg (s : State) : (commitReading s).cfg = s.cfg := rfl
@[simp] theorem commitReading_tick (s : State) : (commitReading s).tick = s.tick := rfl
@[simp] theorem commitReading_busy (s : State) : (commitReading s).busy = s.busy := rfl
@[simp] theorem commitReading_sws (s : State) :
    (commitReading s).sws =
      { s.sws with hum := s.sws.buf[0], temp := s.sws.buf[2], valid := true, ts := s.tick } := rfl
@[simp] theorem commitReading_cbs (s : State) : (commitReading s).cbs = s.cbs := rfl
@[simp] theorem commitReading_dsp (s : State) : (commitReading s).dsp = s.dsp := rfl
@[simp] theorem commitReading_env (s : State) : (commitReading s).env = s.env := rfl
@[simp] theorem commitReading_obs (s : State) : (commitReading s).obs = s.obs := rfl

@[simp] theorem cbEntry_cfg (a : BitVec 7) (s : State) : (cbEntry a s).cfg = s.cfg := rfl
@[simp] theorem cbEntry_tick (a : BitVec 7) (s : State) : (cbEntry a s).tick = s.tick := rfl
@[simp] theorem cbEntry_busy (a : BitVec 7) (s : State) : (cbEntry a s).busy = s.busy := rfl
@[simp] theorem cbEntry_sws (a : BitVec 7) (s : State) : (cbEntry a s).sws = s.sws := rfl
@[simp] theorem cbEntry_cbs (a : BitVec 7) (s : State) :
    (cbEntry a s).cbs =
      { s.cbs with seq := .entry a, ready := false, rvalid := false } := rfl
@[simp] theorem cbEntry_dsp (a : BitVec 7) (s : State) : (cbEntry a s).dsp = s.dsp := rfl
@[simp] theorem cbEntry_env (a : BitVec 7) (s : State) : (cbEntry a s).env = s.env := rfl
@[simp] theorem cbEntry_obs (a : BitVec 7) (s : State) : (cbEntry a s).obs = s.obs := rfl

@[simp] theorem loadCoeffs_cfg (b : List Byte) (s : State) : (loadCoeffs b s).cfg = s.cfg := rfl
@[simp] theorem loadCoeffs_tick (b : List Byte) (s : State) : (loadCoeffs b s).tick = s.tick := rfl
@[simp] theorem loadCoeffs_busy (b : List Byte) (s : State) : (loadCoeffs b s).busy = s.busy := rfl
@[simp] theorem loadCoeffs_sws (b : List Byte) (s : State) : (loadCoeffs b s).sws = s.sws := rfl
@[simp] theorem loadCoeffs_cbs (b : List Byte) (s : State) : (loadCoeffs b s).cbs = { s.cbs with coef := coeffsOf b } := rfl
@[simp] theorem loadCoeffs_dsp (b : List Byte) (s : State) : (loadCoeffs b s).dsp = s.dsp := rfl
@[simp] theorem loadCoeffs_env (b : List Byte) (s : State) : (loadCoeffs b s).env = s.env := rfl
@[simp] theorem loadCoeffs_obs (b : List Byte) (s : State) : (loadCoeffs b s).obs = s.obs := rfl

@[simp] theorem cbDone_cfg (a : BitVec 7) (s : State) : (cbDone a s).cfg = s.cfg := rfl
@[simp] theorem cbDone_tick (a : BitVec 7) (s : State) : (cbDone a s).tick = s.tick := rfl
@[simp] theorem cbDone_busy (a : BitVec 7) (s : State) : (cbDone a s).busy = s.busy := rfl
@[simp] theorem cbDone_sws (a : BitVec 7) (s : State) : (cbDone a s).sws = s.sws := rfl
@[simp] theorem cbDone_cbs (a : BitVec 7) (s : State) :
    (cbDone a s).cbs =
      { s.cbs with seq := .newDone a, addr := a, ready := true } := rfl
@[simp] theorem cbDone_dsp (a : BitVec 7) (s : State) : (cbDone a s).dsp = s.dsp := rfl
@[simp] theorem cbDone_env (a : BitVec 7) (s : State) : (cbDone a s).env = s.env := rfl
@[simp] theorem cbDone_obs (a : BitVec 7) (s : State) : (cbDone a s).obs = s.obs := rfl

@[simp] theorem cbCompT_cfg (s : State) : (cbCompT s).cfg = s.cfg := rfl
@[simp] theorem cbCompT_tick (s : State) : (cbCompT s).tick = s.tick := rfl
@[simp] theorem cbCompT_busy (s : State) : (cbCompT s).busy = s.busy := rfl
@[simp] theorem cbCompT_sws (s : State) : (cbCompT s).sws = s.sws := rfl
@[simp] theorem cbCompT_cbs (s : State) :
    (cbCompT s).cbs =
      { s.cbs with seq := .compT, tfine := (compT s.cbs.adcT s.cbs.coef).1 } := rfl
@[simp] theorem cbCompT_dsp (s : State) : (cbCompT s).dsp = s.dsp := rfl
@[simp] theorem cbCompT_env (s : State) : (cbCompT s).env = s.env := rfl
@[simp] theorem cbCompT_obs (s : State) : (cbCompT s).obs = s.obs := rfl

@[simp] theorem cbCommit_cfg (t p : Word) (s : State) : (cbCommit t p s).cfg = s.cfg := rfl
@[simp] theorem cbCommit_tick (t p : Word) (s : State) : (cbCommit t p s).tick = s.tick := rfl
@[simp] theorem cbCommit_busy (t p : Word) (s : State) : (cbCommit t p s).busy = s.busy := rfl
@[simp] theorem cbCommit_sws (t p : Word) (s : State) : (cbCommit t p s).sws = s.sws := rfl
@[simp] theorem cbCommit_cbs (t p : Word) (s : State) :
    (cbCommit t p s).cbs =
      { s.cbs with seq := .readDone t p, t := t, p := p, rvalid := true, ts := s.tick } := rfl
@[simp] theorem cbCommit_dsp (t p : Word) (s : State) : (cbCommit t p s).dsp = s.dsp := rfl
@[simp] theorem cbCommit_env (t p : Word) (s : State) : (cbCommit t p s).env = s.env := rfl
@[simp] theorem cbCommit_obs (t p : Word) (s : State) : (cbCommit t p s).obs = s.obs := rfl

@[simp] theorem dsDone_cfg (s : State) : (dsDone s).cfg = s.cfg := rfl
@[simp] theorem dsDone_tick (s : State) : (dsDone s).tick = s.tick := rfl
@[simp] theorem dsDone_busy (s : State) : (dsDone s).busy = s.busy := rfl
@[simp] theorem dsDone_sws (s : State) : (dsDone s).sws = s.sws := rfl
@[simp] theorem dsDone_cbs (s : State) : (dsDone s).cbs = s.cbs := rfl
@[simp] theorem dsDone_dsp (s : State) : (dsDone s).dsp = { s.dsp with seq := .done, ready := true } := rfl
@[simp] theorem dsDone_env (s : State) : (dsDone s).env = s.env := rfl
@[simp] theorem dsDone_obs (s : State) : (dsDone s).obs = s.obs := rfl

@[simp] theorem dsEntry_cfg (s : State) : (dsEntry s).cfg = s.cfg := rfl
@[simp] theorem dsEntry_tick (s : State) : (dsEntry s).tick = s.tick := rfl
@[simp] theorem dsEntry_busy (s : State) : (dsEntry s).busy = s.busy := rfl
@[simp] theorem dsEntry_sws (s : State) : (dsEntry s).sws = s.sws := rfl
@[simp] theorem dsEntry_cbs (s : State) : (dsEntry s).cbs = s.cbs := rfl
@[simp] theorem dsEntry_dsp (s : State) :
    (dsEntry s).dsp =
      { s.dsp with seq := .entry, ready := false, stream := false, remain := 0 } := rfl
@[simp] theorem dsEntry_env (s : State) : (dsEntry s).env = s.env := rfl
@[simp] theorem dsEntry_obs (s : State) : (dsEntry s).obs = s.obs := rfl

@[simp] theorem openWindow_cfg (x0 y0 x1 y1 : Half) (s : State) : (openWindow x0 y0 x1 y1 s).cfg = s.cfg := rfl
@[simp] theorem openWindow_tick (x0 y0 x1 y1 : Half) (s : State) : (openWindow x0 y0 x1 y1 s).tick = s.tick := rfl
@[simp] theorem openWindow_busy (x0 y0 x1 y1 : Half) (s : State) : (openWindow x0 y0 x1 y1 s).busy = s.busy := rfl
@[simp] theorem openWindow_sws (x0 y0 x1 y1 : Half) (s : State) : (openWindow x0 y0 x1 y1 s).sws = s.sws := rfl
@[simp] theorem openWindow_cbs (x0 y0 x1 y1 : Half) (s : State) : (openWindow x0 y0 x1 y1 s).cbs = s.cbs := rfl
@[simp] theorem openWindow_dsp (x0 y0 x1 y1 : Half) (s : State) :
    (openWindow x0 y0 x1 y1 s).dsp =
      { s.dsp with x0 := x0, y0 := y0, x1 := x1, y1 := y1, stream := true, remain := BitVec.ofNat 32 (windowCount x0 y0 x1 y1) } := rfl
@[simp] theorem openWindow_env (x0 y0 x1 y1 : Half) (s : State) : (openWindow x0 y0 x1 y1 s).env = s.env := rfl
@[simp] theorem openWindow_obs (x0 y0 x1 y1 : Half) (s : State) : (openWindow x0 y0 x1 y1 s).obs = s.obs := rfl

@[simp] theorem spend_cfg (k : Nat) (s : State) : (spend k s).cfg = s.cfg := rfl
@[simp] theorem spend_tick (k : Nat) (s : State) : (spend k s).tick = s.tick := rfl
@[simp] theorem spend_busy (k : Nat) (s : State) : (spend k s).busy = s.busy := rfl
@[simp] theorem spend_sws (k : Nat) (s : State) : (spend k s).sws = s.sws := rfl
@[simp] theorem spend_cbs (k : Nat) (s : State) : (spend k s).cbs = s.cbs := rfl
@[simp] theorem spend_dsp (k : Nat) (s : State) :
    (spend k s).dsp =
      { s.dsp with remain := s.dsp.remain - BitVec.ofNat 32 k } := rfl
@[simp] theorem spend_env (k : Nat) (s : State) : (spend k s).env = s.env := rfl
@[simp] theorem spend_obs (k : Nat) (s : State) : (spend k s).obs = s.obs := rfl

@[simp] theorem windowFull_cfg (s : State) : (windowFull s).cfg = s.cfg := rfl
@[simp] theorem windowFull_tick (s : State) : (windowFull s).tick = s.tick := rfl
@[simp] theorem windowFull_busy (s : State) : (windowFull s).busy = s.busy := rfl
@[simp] theorem windowFull_sws (s : State) : (windowFull s).sws = s.sws := rfl
@[simp] theorem windowFull_cbs (s : State) : (windowFull s).cbs = s.cbs := rfl
@[simp] theorem windowFull_dsp (s : State) : (windowFull s).dsp = { s.dsp with remain := 0 } := rfl
@[simp] theorem windowFull_env (s : State) : (windowFull s).env = s.env := rfl
@[simp] theorem windowFull_obs (s : State) : (windowFull s).obs = s.obs := rfl

@[simp] theorem loadChunk_cfg (n : Nat) (c : Half) (s : State) : (loadChunk n c s).cfg = s.cfg := rfl
@[simp] theorem loadChunk_tick (n : Nat) (c : Half) (s : State) : (loadChunk n c s).tick = s.tick := rfl
@[simp] theorem loadChunk_busy (n : Nat) (c : Half) (s : State) : (loadChunk n c s).busy = s.busy := rfl
@[simp] theorem loadChunk_sws (n : Nat) (c : Half) (s : State) : (loadChunk n c s).sws = s.sws := rfl
@[simp] theorem loadChunk_cbs (n : Nat) (c : Half) (s : State) : (loadChunk n c s).cbs = s.cbs := rfl
@[simp] theorem loadChunk_dsp (n : Nat) (c : Half) (s : State) :
    (loadChunk n c s).dsp =
      { s.dsp with
        seq := .load n c
        chunk := List.replicate (min n s.cfg.dsChunk) c ++ s.dsp.chunk.drop (min n s.cfg.dsChunk) } := rfl
@[simp] theorem loadChunk_env (n : Nat) (c : Half) (s : State) : (loadChunk n c s).env = s.env := rfl
@[simp] theorem loadChunk_obs (n : Nat) (c : Half) (s : State) : (loadChunk n c s).obs = s.obs := rfl

@[simp] theorem scanAt_cfg (r c : Nat) (s : State) : (scanAt r c s).cfg = s.cfg := rfl
@[simp] theorem scanAt_tick (r c : Nat) (s : State) : (scanAt r c s).tick = s.tick := rfl
@[simp] theorem scanAt_busy (r c : Nat) (s : State) : (scanAt r c s).busy = s.busy := rfl
@[simp] theorem scanAt_sws (r c : Nat) (s : State) : (scanAt r c s).sws = s.sws := rfl
@[simp] theorem scanAt_cbs (r c : Nat) (s : State) : (scanAt r c s).cbs = s.cbs := rfl
@[simp] theorem scanAt_dsp (r c : Nat) (s : State) :
    (scanAt r c s).dsp =
      { s.dsp with row := BitVec.ofNat 3 r, col := BitVec.ofNat 3 c } := rfl
@[simp] theorem scanAt_env (r c : Nat) (s : State) : (scanAt r c s).env = s.env := rfl
@[simp] theorem scanAt_obs (r c : Nat) (s : State) : (scanAt r c s).obs = s.obs := rfl

@[simp] theorem homeCursor_cfg (x y : Half) (s : State) : (homeCursor x y s).cfg = s.cfg := rfl
@[simp] theorem homeCursor_tick (x y : Half) (s : State) : (homeCursor x y s).tick = s.tick := rfl
@[simp] theorem homeCursor_busy (x y : Half) (s : State) : (homeCursor x y s).busy = s.busy := rfl
@[simp] theorem homeCursor_sws (x y : Half) (s : State) : (homeCursor x y s).sws = s.sws := rfl
@[simp] theorem homeCursor_cbs (x y : Half) (s : State) : (homeCursor x y s).cbs = s.cbs := rfl
@[simp] theorem homeCursor_dsp (x y : Half) (s : State) :
    (homeCursor x y s).dsp =
      { s.dsp with ox := x, cx := x.setWidth 17, cy := y.setWidth 17 } := rfl
@[simp] theorem homeCursor_env (x y : Half) (s : State) : (homeCursor x y s).env = s.env := rfl
@[simp] theorem homeCursor_obs (x y : Half) (s : State) : (homeCursor x y s).obs = s.obs := rfl

@[simp] theorem chipSelect_cfg (v : Bool) (s : State) : (chipSelect v s).cfg = s.cfg := by unfold chipSelect; split <;> rfl
@[simp] theorem chipSelect_tick (v : Bool) (s : State) : (chipSelect v s).tick = s.tick := by unfold chipSelect; split <;> rfl
@[simp] theorem chipSelect_busy (v : Bool) (s : State) : (chipSelect v s).busy = s.busy := by unfold chipSelect; split <;> rfl
@[simp] theorem chipSelect_sws (v : Bool) (s : State) : (chipSelect v s).sws = s.sws := by unfold chipSelect; split <;> rfl
@[simp] theorem chipSelect_cbs (v : Bool) (s : State) : (chipSelect v s).cbs = s.cbs := by unfold chipSelect; split <;> rfl
@[simp] theorem chipSelect_env (v : Bool) (s : State) : (chipSelect v s).env = s.env := by unfold chipSelect; split <;> rfl
@[simp] theorem chipSelect_obs (v : Bool) (s : State) : (chipSelect v s).obs = s.obs := by unfold chipSelect; split <;> rfl

@[simp] theorem nextLevel_cfg (s : State) : (s.nextLevel.2).cfg = s.cfg := by unfold State.nextLevel; split <;> rfl
@[simp] theorem nextLevel_tick (s : State) : (s.nextLevel.2).tick = s.tick := by unfold State.nextLevel; split <;> rfl
@[simp] theorem nextLevel_busy (s : State) : (s.nextLevel.2).busy = s.busy := by unfold State.nextLevel; split <;> rfl
@[simp] theorem nextLevel_sws (s : State) : (s.nextLevel.2).sws = s.sws := by unfold State.nextLevel; split <;> rfl
@[simp] theorem nextLevel_cbs (s : State) : (s.nextLevel.2).cbs = s.cbs := by unfold State.nextLevel; split <;> rfl
@[simp] theorem nextLevel_dsp (s : State) : (s.nextLevel.2).dsp = s.dsp := by unfold State.nextLevel; split <;> rfl
@[simp] theorem nextLevel_obs (s : State) : (s.nextLevel.2).obs = s.obs := by unfold State.nextLevel; split <;> rfl

@[simp] theorem nextI2c_cfg (s : State) : (s.nextI2c.2).cfg = s.cfg := by unfold State.nextI2c; split <;> rfl
@[simp] theorem nextI2c_tick (s : State) : (s.nextI2c.2).tick = s.tick := by unfold State.nextI2c; split <;> rfl
@[simp] theorem nextI2c_busy (s : State) : (s.nextI2c.2).busy = s.busy := by unfold State.nextI2c; split <;> rfl
@[simp] theorem nextI2c_sws (s : State) : (s.nextI2c.2).sws = s.sws := by unfold State.nextI2c; split <;> rfl
@[simp] theorem nextI2c_cbs (s : State) : (s.nextI2c.2).cbs = s.cbs := by unfold State.nextI2c; split <;> rfl
@[simp] theorem nextI2c_dsp (s : State) : (s.nextI2c.2).dsp = s.dsp := by unfold State.nextI2c; split <;> rfl
@[simp] theorem nextI2c_obs (s : State) : (s.nextI2c.2).obs = s.obs := by unfold State.nextI2c; split <;> rfl

@[simp] theorem nextSpi_cfg (s : State) : (s.nextSpi.2).cfg = s.cfg := by unfold State.nextSpi; split <;> rfl
@[simp] theorem nextSpi_tick (s : State) : (s.nextSpi.2).tick = s.tick := by unfold State.nextSpi; split <;> rfl
@[simp] theorem nextSpi_busy (s : State) : (s.nextSpi.2).busy = s.busy := by unfold State.nextSpi; split <;> rfl
@[simp] theorem nextSpi_sws (s : State) : (s.nextSpi.2).sws = s.sws := by unfold State.nextSpi; split <;> rfl
@[simp] theorem nextSpi_cbs (s : State) : (s.nextSpi.2).cbs = s.cbs := by unfold State.nextSpi; split <;> rfl
@[simp] theorem nextSpi_dsp (s : State) : (s.nextSpi.2).dsp = s.dsp := by unfold State.nextSpi; split <;> rfl
@[simp] theorem nextSpi_obs (s : State) : (s.nextSpi.2).obs = s.obs := by unfold State.nextSpi; split <;> rfl

@[simp] theorem ignorePacket_cfg (s : State) : (s.ignorePacket).cfg = s.cfg := by unfold State.ignorePacket; split <;> rfl
@[simp] theorem ignorePacket_tick (s : State) : (s.ignorePacket).tick = s.tick := by unfold State.ignorePacket; split <;> rfl
@[simp] theorem ignorePacket_busy (s : State) : (s.ignorePacket).busy = s.busy := by unfold State.ignorePacket; split <;> rfl
@[simp] theorem ignorePacket_sws (s : State) : (s.ignorePacket).sws = s.sws := by unfold State.ignorePacket; split <;> rfl
@[simp] theorem ignorePacket_cbs (s : State) : (s.ignorePacket).cbs = s.cbs := by unfold State.ignorePacket; split <;> rfl
@[simp] theorem ignorePacket_dsp (s : State) : (s.ignorePacket).dsp = s.dsp := by unfold State.ignorePacket; split <;> rfl
@[simp] theorem ignorePacket_obs (s : State) : (s.ignorePacket).obs = s.obs := by unfold State.ignorePacket; split <;> rfl

@[simp] theorem loseInstance_cfg (s : State) : (loseInstance s).cfg = s.cfg := by rfl
@[simp] theorem loseInstance_tick (s : State) : (loseInstance s).tick = s.tick := by rfl
@[simp] theorem loseInstance_busy (s : State) : (loseInstance s).busy = s.busy := by rfl
@[simp] theorem loseInstance_sws (s : State) : (loseInstance s).sws = s.sws := by rfl
@[simp] theorem loseInstance_dsp (s : State) : (loseInstance s).dsp = s.dsp := by rfl
@[simp] theorem loseInstance_obs (s : State) : (loseInstance s).obs = s.obs := by rfl

@[simp] theorem advanceCursor_cfg (s : State) : (advanceCursor s).cfg = s.cfg := by unfold advanceCursor; simp only; split <;> rfl
@[simp] theorem advanceCursor_tick (s : State) : (advanceCursor s).tick = s.tick := by unfold advanceCursor; simp only; split <;> rfl
@[simp] theorem advanceCursor_busy (s : State) : (advanceCursor s).busy = s.busy := by unfold advanceCursor; simp only; split <;> rfl
@[simp] theorem advanceCursor_sws (s : State) : (advanceCursor s).sws = s.sws := by unfold advanceCursor; simp only; split <;> rfl
@[simp] theorem advanceCursor_cbs (s : State) : (advanceCursor s).cbs = s.cbs := by unfold advanceCursor; simp only; split <;> rfl
@[simp] theorem advanceCursor_env (s : State) : (advanceCursor s).env = s.env := by unfold advanceCursor; simp only; split <;> rfl
@[simp] theorem advanceCursor_obs (s : State) : (advanceCursor s).obs = s.obs := by unfold advanceCursor; simp only; split <;> rfl

@[simp] theorem backlightOn_cfg (s : State) : (backlightOn s).cfg = s.cfg := by unfold backlightOn; split <;> rfl
@[simp] theorem backlightOn_tick (s : State) : (backlightOn s).tick = s.tick := by unfold backlightOn; split <;> rfl
@[simp] theorem backlightOn_busy (s : State) : (backlightOn s).busy = s.busy := by unfold backlightOn; split <;> rfl
@[simp] theorem backlightOn_sws (s : State) : (backlightOn s).sws = s.sws := by unfold backlightOn; split <;> rfl
@[simp] theorem backlightOn_cbs (s : State) : (backlightOn s).cbs = s.cbs := by unfold backlightOn; split <;> rfl
@[simp] theorem backlightOn_env (s : State) : (backlightOn s).env = s.env := by unfold backlightOn; split <;> rfl


@[simp] theorem chipSelect_csN (v : Bool) (s : State) :
    (chipSelect v s).dsp = if s.cfg.dsHasCs then { s.dsp with csN := v } else s.dsp := by
  unfold chipSelect; split <;> rfl

end Sys2Proof.Machine
end

