-- ==== Sys2Proof/Laws/Ops.lean ====
section
/-! SUPPORT. One lemma per shared operation that says all it can do; the provers cite these instead of unfolding. -/

namespace Sys2Proof.Machine

/-! ## Sequencing -/

@[simp] theorem Run.ok_andThen (s : State) (f : State → Run) : (Run.ok s).andThen f = f s := rfl

@[simp] theorem Run.err_andThen (e : Status) (s : State) (f : State → Run) :
    (Run.err e s).andThen f = .err e s := rfl

theorem Run.andThen_assoc (r : Run) (f g : State → Run) :
    (r.andThen f).andThen g = r.andThen fun s => (f s).andThen g := by
  cases r <;> rfl

theorem Run.andThen_eq_ok {r : Run} {f : State → Run} {t : State} (h : r.andThen f = .ok t) :
    ∃ m, r = .ok m ∧ f m = .ok t := by
  cases r with
  | ok s => exact ⟨s, rfl, h⟩
  | err e s => exact nomatch h

theorem Run.andThen_eq_err {r : Run} {f : State → Run} {e : Status} {t : State} (h : r.andThen f = .err e t) :
    r = .err e t ∨ ∃ m, r = .ok m ∧ f m = .err e t := by
  cases r with
  | ok s => exact .inr ⟨s, rfl, h⟩
  | err e' s => exact .inl h

/-- Wherever the statements stop, the state has P. -/
def Run.Ends (P : State → Prop) : Run → Prop
  | .ok s => P s
  | .err _ s => P s

@[simp] theorem Run.ends_ok (P : State → Prop) (s : State) : (Run.ok s).Ends P = P s := rfl

@[simp] theorem Run.ends_err (P : State → Prop) (e : Status) (s : State) : (Run.err e s).Ends P = P s := rfl

theorem Run.ends_andThen {P : State → Prop} {r : Run} {f : State → Run} (hr : r.Ends P)
    (hf : ∀ s, P s → (f s).Ends P) : (r.andThen f).Ends P := by
  cases r with
  | ok s => exact hf s hr
  | err e s => exact hr

theorem Run.ends_checked {P : State → Prop} {r : Bool × State} (h : P r.2) (hd : P (dropStream r.2)) :
    (checked r).Ends P := by
  unfold checked
  split
  · exact h
  · exact hd

@[simp] theorem Run.goOn_ok (u : BlockUnit) (next : State → State) (s : State) : (Run.ok s).goOn u next = next s := rfl

@[simp] theorem Run.goOn_err (u : BlockUnit) (next : State → State) (e : Status) (s : State) :
    (Run.err e s).goOn u next = s.fail u e := rfl

/-- Going on with more statements and then to the end, or to the end of both. -/
theorem Run.goOn_andThen (u : BlockUnit) (next : State → State) (r : Run) (f : State → Run) :
    (r.andThen f).goOn u next = r.goOn u fun s => (f s).goOn u next := by
  cases r <;> rfl

@[simp] theorem Run.finish_ok (u : BlockUnit) (p : State → List Byte) (s : State) :
    (Run.ok s).finish u p = s.respond u (p s) := rfl

@[simp] theorem Run.finish_err (u : BlockUnit) (p : State → List Byte) (e : Status) (s : State) :
    (Run.err e s).finish u p = s.fail u e := rfl

@[simp] theorem Run.statement_ok (s : State) : (Run.ok s).statement = s := rfl

@[simp] theorem Run.statement_err (e : Status) (s : State) : (Run.err e s).statement = s.fail .dsp e := rfl

/-! ## The line -/

/-- n ticks after one tick are n + 1 ticks. -/
theorem tick_succ (x : Quad) (n : Nat) : x + 1#64 + BitVec.ofNat 64 n = x + BitVec.ofNat 64 (n + 1) := by
  rw [BitVec.add_assoc, Nat.add_comm n 1, BitVec.ofNat_add]

/-- A sample the trace gives: the level, one tick, one event. -/
theorem lineSample_given {s : State} {v : Bool} {rest : List Bool} (h : s.env.line = v :: rest) :
    lineSample s = (v, { s with
      tick := s.tick + 1, env := { s.env with line := rest }
      obs := { s.obs with events := .lineSample v :: s.obs.events } }) := by
  unfold lineSample State.nextLevel
  rw [h]
  rfl

/-- A sample beyond the trace: a free level. -/
theorem lineSample_free {s : State} (h : s.env.line = []) :
    lineSample s = (Config.lineLevel s.env.draws, { s with
      tick := s.tick + 1, env := { s.env with draws := s.env.draws + 1 }
      obs := { s.obs with events := .lineSample (Config.lineLevel s.env.draws) :: s.obs.events } }) := by
  unfold lineSample State.nextLevel
  rw [h]
  rfl

/-- Whatever is sampled: only the clock, the environment and the history move. -/
theorem lineSample_frame (s : State) :
    (lineSample s).2.cfg = s.cfg ∧ (lineSample s).2.busy = s.busy ∧ (lineSample s).2.sws = s.sws
      ∧ (lineSample s).2.cbs = s.cbs ∧ (lineSample s).2.dsp = s.dsp ∧ (lineSample s).2.tick = s.tick + 1
      ∧ (lineSample s).2.env.port = s.env.port
      ∧ (lineSample s).2.obs = { s.obs with events := .lineSample (lineSample s).1 :: s.obs.events } := by
  cases h : s.env.line with
  | nil => rw [lineSample_free h]; exact ⟨rfl, rfl, rfl, rfl, rfl, rfl, rfl, rfl⟩
  | cons v rest => rw [lineSample_given h]; exact ⟨rfl, rfl, rfl, rfl, rfl, rfl, rfl, rfl⟩

theorem lineSample_cfg (s : State) : (lineSample s).2.cfg = s.cfg := (lineSample_frame s).1

/-- A wait finds its level after k samples of the other level, and has consumed it. -/
theorem waitLevel_found (level : Bool) (k n : Nat) (rest : List Bool) (hk : k < n) (s : State)
    (h : s.env.line = List.replicate k (!level) ++ level :: rest) :
    waitLevel level n s = (true, { s with
      tick := s.tick + BitVec.ofNat 64 (k + 1), sws := { s.sws with cnt := s.sws.cnt + k }
      env := { s.env with line := rest }
      obs := { s.obs with
        events := .lineSample level :: (List.replicate k (.lineSample (!level)) ++ s.obs.events) } }) := by
  induction k generalizing n s with
  | zero =>
    obtain ⟨n, rfl⟩ : ∃ m, n = m + 1 := ⟨n - 1, by omega⟩
    simp only [List.replicate_zero, List.nil_append] at h
    simp [waitLevel, lineSample_given h]
  | succ k ih =>
    obtain ⟨n, rfl⟩ : ∃ m, n = m + 1 := ⟨n - 1, by omega⟩
    simp only [List.replicate_succ, List.cons_append] at h
    have hne : ((!level) = level) = False := by simp
    simp only [waitLevel, lineSample_given h, hne, if_false]
    rw [ih n (by omega) _ rfl]
    simp [State.swCount, List.replicate_succ', Nat.add_comm, Nat.add_left_comm]
    exact tick_succ _ _

/-- A wait whose n samples all have the other level times out. -/
theorem waitLevel_timeout (level : Bool) (n : Nat) (rest : List Bool) (s : State)
    (h : s.env.line = List.replicate n (!level) ++ rest) :
    waitLevel level n s = (false, { s with
      tick := s.tick + BitVec.ofNat 64 n, sws := { s.sws with cnt := s.sws.cnt + n }
      env := { s.env with line := rest }
      obs := { s.obs with events := List.replicate n (.lineSample (!level)) ++ s.obs.events } }) := by
  induction n generalizing s with
  | zero =>
    simp only [List.replicate_zero, List.nil_append] at h
    simp [waitLevel, ← h]
  | succ n ih =>
    simp only [List.replicate_succ, List.cons_append] at h
    have hne : ((!level) = level) = False := by simp
    simp only [waitLevel, lineSample_given h, hne, if_false]
    rw [ih _ rfl]
    simp [State.swCount, List.replicate_succ', Nat.add_comm, Nat.add_left_comm]
    exact tick_succ _ _

/-- A high phase of which k more samples are high: the count is k, and the first low sample is consumed. -/
theorem measureHigh_found (k n : Nat) (rest : List Bool) (hk : k < n) (s : State)
    (h : s.env.line = List.replicate k true ++ false :: rest) :
    measureHigh n s = (true, { s with
      tick := s.tick + BitVec.ofNat 64 (k + 1), sws := { s.sws with cnt := s.sws.cnt + k }
      env := { s.env with line := rest }
      obs := { s.obs with
        events := .lineSample false :: (List.replicate k (.lineSample true) ++ s.obs.events) } }) := by
  induction k generalizing n s with
  | zero =>
    obtain ⟨n, rfl⟩ : ∃ m, n = m + 1 := ⟨n - 1, by omega⟩
    simp only [List.replicate_zero, List.nil_append] at h
    simp [measureHigh, lineSample_given h]
  | succ k ih =>
    obtain ⟨n, rfl⟩ : ∃ m, n = m + 1 := ⟨n - 1, by omega⟩
    simp only [List.replicate_succ, List.cons_append] at h
    simp only [measureHigh, lineSample_given h, if_true]
    rw [ih n (by omega) _ rfl]
    simp [State.swCount, List.replicate_succ', Nat.add_comm, Nat.add_left_comm]
    exact tick_succ _ _

/-! ## The sensor bus -/

/-- A read whose answer is written out. -/
theorem i2cRead_given {s : State} {a : I2cAnswer} {rest : List I2cAnswer} (h : s.env.i2c = a :: rest)
    (addr : BitVec 7) (reg : Byte) (n : Nat) :
    i2cRead addr reg n s =
      (if a.ack then some (readBytes s.env.draws n a.bytes) else none, { s with
        tick := s.tick + BitVec.ofNat 64 a.ticks, env := { s.env with i2c := rest, draws := s.env.draws + 1 }
        obs := { s.obs with
          events := .i2cRead addr reg n (if a.ack then some (readBytes s.env.draws n a.bytes) else none)
            :: s.obs.events } }) := by
  unfold i2cRead State.nextI2c
  rw [h]
  rfl

/-- A write whose answer is written out. -/
theorem i2cWrite_given {s : State} {a : I2cAnswer} {rest : List I2cAnswer} (h : s.env.i2c = a :: rest)
    (addr : BitVec 7) (reg : Byte) (bytes : List Byte) :
    i2cWrite addr reg bytes s = (a.ack, { s with
      tick := s.tick + BitVec.ofNat 64 a.ticks, env := { s.env with i2c := rest, draws := s.env.draws + 1 }
      obs := { s.obs with events := .i2cWrite addr reg bytes a.ack :: s.obs.events } }) := by
  unfold i2cWrite State.nextI2c
  rw [h]
  rfl

/-- The bytes of a read are those of the answer where it gives enough. -/
theorem readBytes_given (draw n : Nat) (given : List Byte) (h : given.length = n) :
    readBytes draw n given = given := by
  subst h
  apply List.ext_getElem
  · simp [readBytes]
  · intro i h1 h2
    simp [readBytes, h2]

/-- A read keeps everything but the clock, the responder's answers and the history, to which it adds its one event. -/
theorem i2cRead_frame (addr : BitVec 7) (reg : Byte) (n : Nat) (s : State) :
    (i2cRead addr reg n s).2.cfg = s.cfg ∧ (i2cRead addr reg n s).2.busy = s.busy
      ∧ (i2cRead addr reg n s).2.sws = s.sws ∧ (i2cRead addr reg n s).2.cbs = s.cbs
      ∧ (i2cRead addr reg n s).2.dsp = s.dsp ∧ (i2cRead addr reg n s).2.env.port = s.env.port
      ∧ (i2cRead addr reg n s).2.env.line = s.env.line ∧ (i2cRead addr reg n s).2.env.spi = s.env.spi
      ∧ (i2cRead addr reg n s).2.obs
          = { s.obs with events := .i2cRead addr reg n (i2cRead addr reg n s).1 :: s.obs.events } := by
  unfold i2cRead State.nextI2c
  cases s.env.i2c <;> exact ⟨rfl, rfl, rfl, rfl, rfl, rfl, rfl, rfl, rfl⟩

/-- A write likewise. -/
theorem i2cWrite_frame (addr : BitVec 7) (reg : Byte) (bytes : List Byte) (s : State) :
    (i2cWrite addr reg bytes s).2.cfg = s.cfg ∧ (i2cWrite addr reg bytes s).2.busy = s.busy
      ∧ (i2cWrite addr reg bytes s).2.sws = s.sws ∧ (i2cWrite addr reg bytes s).2.cbs = s.cbs
      ∧ (i2cWrite addr reg bytes s).2.dsp = s.dsp ∧ (i2cWrite addr reg bytes s).2.env.port = s.env.port
      ∧ (i2cWrite addr reg bytes s).2.env.line = s.env.line ∧ (i2cWrite addr reg bytes s).2.env.spi = s.env.spi
      ∧ (i2cWrite addr reg bytes s).2.obs
          = { s.obs with events := .i2cWrite addr reg bytes (i2cWrite addr reg bytes s).1 :: s.obs.events } := by
  unfold i2cWrite State.nextI2c
  cases s.env.i2c <;> exact ⟨rfl, rfl, rfl, rfl, rfl, rfl, rfl, rfl, rfl⟩

/-! ## The display bus -/

/-- A transfer whose answer is written out: the data/command line is left at `dc`, chip select deasserted. -/
theorem spiTransfer_given {s : State} {a : SpiAnswer} {rest : List SpiAnswer} (h : s.env.spi = a :: rest)
    (dc : Bool) (event : Bool → Event) :
    spiTransfer dc event s = (a.ok, { s with
      tick := s.tick + BitVec.ofNat 64 a.ticks
      dsp := { s.dsp with dc := dc, csN := if s.cfg.dsHasCs then true else s.dsp.csN }
      env := { s.env with spi := rest }
      obs := { s.obs with events := event a.ok :: s.obs.events } }) := by
  unfold spiTransfer
  have hf : (chipSelect false { s with dsp := { s.dsp with dc := dc } }).env.spi = a :: rest := by simp [h]
  simp only [State.nextSpi, hf]
  cases hc : s.cfg.dsHasCs <;> simp [chipSelect, State.tickBy, State.log, hc]

/-- `Cmd` with a good answer. -/
theorem dsCmd_given {s : State} {a : SpiAnswer} {rest : List SpiAnswer} (h : s.env.spi = a :: rest)
    (ha : a.ok = true) (b : Byte) :
    dsCmd b s = .ok { s with
      tick := s.tick + BitVec.ofNat 64 a.ticks
      dsp := { s.dsp with dc := false, csN := if s.cfg.dsHasCs then true else s.dsp.csN }
      env := { s.env with spi := rest }
      obs := { s.obs with events := .spiCmd b true :: s.obs.events } } := by
  simp [dsCmd, spiCmd, checked, spiTransfer_given h, ha]

/-- `Data` with a good answer. -/
theorem dsData_given {s : State} {a : SpiAnswer} {rest : List SpiAnswer} (h : s.env.spi = a :: rest)
    (ha : a.ok = true) (bytes : List Byte) :
    dsData bytes s = .ok { s with
      tick := s.tick + BitVec.ofNat 64 a.ticks
      dsp := { s.dsp with dc := true, csN := if s.cfg.dsHasCs then true else s.dsp.csN }
      env := { s.env with spi := rest }
      obs := { s.obs with events := .spiData bytes true :: s.obs.events } } := by
  simp [dsData, spiData, checked, spiTransfer_given h, ha]

/-- A transfer keeps everything but the clock, the two transfer pins, the environment's answers and the history, to which it adds its
one event. -/
theorem spiTransfer_frame (dc : Bool) (event : Bool → Event) (s : State) :
    (spiTransfer dc event s).2.cfg = s.cfg ∧ (spiTransfer dc event s).2.busy = s.busy
      ∧ (spiTransfer dc event s).2.sws = s.sws ∧ (spiTransfer dc event s).2.cbs = s.cbs
      ∧ (spiTransfer dc event s).2.dsp
          = { s.dsp with dc := dc, csN := if s.cfg.dsHasCs then true else s.dsp.csN }
      ∧ (spiTransfer dc event s).2.env.port = s.env.port ∧ (spiTransfer dc event s).2.env.line = s.env.line
      ∧ (spiTransfer dc event s).2.env.i2c = s.env.i2c
      ∧ (spiTransfer dc event s).2.obs
          = { s.obs with events := event (spiTransfer dc event s).1 :: s.obs.events } := by
  unfold spiTransfer State.nextSpi
  cases hc : s.cfg.dsHasCs <;> cases hs : s.env.spi <;>
    simp [chipSelect, State.tickBy, State.log, hc, hs]

/-! ## The step -/

/-- What a step of the idle block is: a move of the host. -/
theorem step_idle_cases {s t : State} (hb : s.busy = false) (h : step s = .next t) :
    (s.env.port = [] ∧ t = s.tickBy 1)
      ∨ (∃ n rest, s.env.port = .wait n :: rest ∧ t = (s.withPort rest).tickBy n)
      ∨ (∃ op bytes rest i, s.env.port = .packet op bytes :: rest
          ∧ decode s.cfg.cbHasAltitude (op :: bytes) = .ok i ∧ exec i (s.withPort rest).accept = .next t)
      ∨ (∃ op bytes rest why, s.env.port = .packet op bytes :: rest
          ∧ decode s.cfg.cbHasAltitude (op :: bytes) = .illegal why
          ∧ t = (s.withPort rest).answer [Status.illegal.code]) := by
  unfold step stepIdle at h
  rw [hb] at h
  simp only [Bool.false_eq_true, if_false] at h
  split at h
  · rename_i hp
    cases h
    exact .inl ⟨hp, rfl⟩
  · rename_i n rest hp
    cases h
    exact .inr (.inl ⟨n, rest, hp, rfl⟩)
  · rename_i op bytes rest hp
    unfold stepPacket at h
    simp only [withPort_cfg] at h
    split at h
    · rename_i i hd
      exact .inr (.inr (.inl ⟨op, bytes, rest, i, hp, hd, h⟩))
    · rename_i why hd
      cases h
      exact .inr (.inr (.inr ⟨op, bytes, rest, why, hp, hd, rfl⟩))

/-- The statement at a label, by the unit that stands inside an operation. -/
theorem innerStatement_cases (s : State) :
    (s.dsp.seq ≠ .idle ∧ innerStatement s = dsStatement s)
      ∨ (s.dsp.seq = .idle ∧ s.cbs.seq ≠ .idle ∧ innerStatement s = cbStatement s)
      ∨ (s.dsp.seq = .idle ∧ s.cbs.seq = .idle ∧ innerStatement s = s.tickBy 1) := by
  unfold innerStatement
  split
  · exact .inl ⟨‹_›, rfl⟩
  · rename_i hd
    split
    · exact .inr (.inl ⟨not_not.mp hd, ‹_›, rfl⟩)
    · rename_i hc
      exact .inr (.inr ⟨not_not.mp hd, not_not.mp hc, rfl⟩)

/-- What a step inside an operation is: a tick of `SW_MEASURE`, a wire command, or another statement. -/
theorem step_busy_cases {s t : State} (hb : s.busy = true) (h : step s = .next t) :
    (s.sws.seq ≠ .idle ∧ t = swTick s.ignorePacket)
      ∨ (s.sws.seq = .idle ∧ ∃ i, wireAt s.dsp.seq = some i ∧ inOperation (exec i s.ignorePacket) = .next t)
      ∨ (s.sws.seq = .idle ∧ wireAt s.dsp.seq = none ∧ t = innerStatement s.ignorePacket) := by
  unfold step stepBusy at h
  rw [hb] at h
  simp only [if_true, ignorePacket_sws, ignorePacket_dsp] at h
  split at h
  · rename_i hi
    split at h
    · rename_i i hw
      exact .inr (.inl ⟨hi, i, hw, h⟩)
    · rename_i hw
      cases h
      exact .inr (.inr ⟨hi, hw, rfl⟩)
  · rename_i hi
    cases h
    exact .inl ⟨hi, rfl⟩

end Sys2Proof.Machine
end

