-- ==== Sys2Proof/Laws/Display.lean ====
section
/-! SUPPORT. What the shared operations of the display can do, said once: the checked transfers whatever the sink answers, and the window
encoder, the pixel and the wire commands on a sink that takes every transfer. -/

namespace Sys2Proof.Machine

/-- `t` is `s` after the one transfer `e` with the data/command line at `dc`: only the clock, the two transfer pins, the sink's answers
and the history have moved. -/
structure Transferred (e : Event) (dc : Bool) (s t : State) : Prop where
  cfg  : t.cfg = s.cfg
  busy : t.busy = s.busy
  sws  : t.sws = s.sws
  cbs  : t.cbs = s.cbs
  dsp  : t.dsp = { s.dsp with dc := dc, csN := if s.cfg.dsHasCs then true else s.dsp.csN }
  port : t.env.port = s.env.port
  line : t.env.line = s.env.line
  i2c  : t.env.i2c = s.env.i2c
  obs  : t.obs = { s.obs with events := e :: s.obs.events }

/-- A checked transfer either happens, or happens as a failure and drops the stream. -/
theorem checked_spiTransfer_cases (dc : Bool) (event : Bool → Event) (s : State) :
    (∃ t, checked (spiTransfer dc event s) = .ok t ∧ Transferred (event true) dc s t)
      ∨ ∃ t, checked (spiTransfer dc event s) = .err .busError (dropStream t) ∧ Transferred (event false) dc s t := by
  obtain ⟨h1, h2, h3, h4, h5, h6, h7, h8, h9⟩ := spiTransfer_frame dc event s
  unfold checked
  cases hr : (spiTransfer dc event s).1
  · exact .inr ⟨_, rfl, h1, h2, h3, h4, h5, h6, h7, h8, by rw [h9, hr]⟩
  · exact .inl ⟨_, rfl, h1, h2, h3, h4, h5, h6, h7, h8, by rw [h9, hr]⟩

/-- `Cmd`, whatever the sink answers. -/
theorem dsCmd_cases (b : Byte) (s : State) :
    (∃ t, dsCmd b s = .ok t ∧ Transferred (.spiCmd b true) false s t)
      ∨ ∃ t, dsCmd b s = .err .busError (dropStream t) ∧ Transferred (.spiCmd b false) false s t :=
  checked_spiTransfer_cases false (.spiCmd b) s

/-- `Data`, whatever the sink answers. -/
theorem dsData_cases (bytes : List Byte) (s : State) :
    (∃ t, dsData bytes s = .ok t ∧ Transferred (.spiData bytes true) true s t)
      ∨ ∃ t, dsData bytes s = .err .busError (dropStream t) ∧ Transferred (.spiData bytes false) true s t :=
  checked_spiTransfer_cases true (.spiData bytes) s

/-- `s` after good transfers: `k` ticks later, the line at `dc`, the answers `rest` left, the events `sent` (newest first) added. -/
def State.sent (k : Quad) (dc : Bool) (rest : List SpiAnswer) (sent : List Event) (s : State) : State :=
  { s with
    tick := s.tick + k
    dsp := { s.dsp with dc := dc, csN := if s.cfg.dsHasCs then true else s.dsp.csN }
    env := { s.env with spi := rest }
    obs := { s.obs with events := sent ++ s.obs.events } }

@[simp] theorem sent_cfg (k : Quad) (dc : Bool) (rest : List SpiAnswer) (l : List Event) (s : State) :
    (s.sent k dc rest l).cfg = s.cfg := rfl

@[simp] theorem sent_spi (k : Quad) (dc : Bool) (rest : List SpiAnswer) (l : List Event) (s : State) :
    (s.sent k dc rest l).env.spi = rest := rfl

/-- Good transfers after good transfers. -/
@[simp] theorem sent_sent (k k' : Quad) (dc dc' : Bool) (rest rest' : List SpiAnswer) (l l' : List Event) (s : State) :
    (s.sent k dc rest l).sent k' dc' rest' l' = s.sent (k + k') dc' rest' (l' ++ l) := by
  cases hc : s.cfg.dsHasCs <;> simp [State.sent, hc, BitVec.add_assoc]

/-- `Cmd` with a good answer. -/
theorem dsCmd_sent {s : State} {a : SpiAnswer} {rest : List SpiAnswer} (h : s.env.spi = a :: rest)
    (ha : a.ok = true) (b : Byte) :
    dsCmd b s = .ok (s.sent (BitVec.ofNat 64 a.ticks) false rest [.spiCmd b true]) := dsCmd_given h ha b

/-- `Data` with a good answer. -/
theorem dsData_sent {s : State} {a : SpiAnswer} {rest : List SpiAnswer} (h : s.env.spi = a :: rest)
    (ha : a.ok = true) (bytes : List Byte) :
    dsData bytes s = .ok (s.sent (BitVec.ofNat 64 a.ticks) true rest [.spiData bytes true]) := dsData_given h ha bytes

/-- column-address-set on a good sink. -/
theorem sendCaset_given {s : State} {a b : SpiAnswer} {rest : List SpiAnswer} (h : s.env.spi = a :: b :: rest)
    (ha : a.ok = true) (hb : b.ok = true) (lo hi : Half) :
    sendCaset lo hi s = .ok (s.sent (BitVec.ofNat 64 a.ticks + BitVec.ofNat 64 b.ticks) true rest
      [.spiData (boundBytes lo hi) true, .spiCmd s.cfg.dsOpCaset true]) := by
  unfold sendCaset
  rw [dsCmd_sent h ha, Run.ok_andThen, dsData_sent (sent_spi ..) hb, sent_sent]
  rfl

/-- row-address-set on a good sink. -/
theorem sendRaset_given {s : State} {a b : SpiAnswer} {rest : List SpiAnswer} (h : s.env.spi = a :: b :: rest)
    (ha : a.ok = true) (hb : b.ok = true) (lo hi : Half) :
    sendRaset lo hi s = .ok (s.sent (BitVec.ofNat 64 a.ticks + BitVec.ofNat 64 b.ticks) true rest
      [.spiData (boundBytes lo hi) true, .spiCmd s.cfg.dsOpRaset true]) := by
  unfold sendRaset
  rw [dsCmd_sent h ha, Run.ok_andThen, dsData_sent (sent_spi ..) hb, sent_sent]
  rfl

/-- An entry of the initialization table on a good sink: one transfer, or two, and then its delay. -/
theorem sendEntry_given_bare {s : State} {a : SpiAnswer} {rest : List SpiAnswer} (h : s.env.spi = a :: rest)
    (ha : a.ok = true) {e : InitEntry} (he : e.data = []) :
    sendEntry e s = .ok (delay e.delay (s.sent (BitVec.ofNat 64 a.ticks) false rest [.spiCmd e.op true])) := by
  unfold sendEntry
  rw [dsCmd_sent h ha, Run.ok_andThen, if_pos he, Run.ok_andThen]

theorem sendEntry_given_data {s : State} {a b : SpiAnswer} {rest : List SpiAnswer} (h : s.env.spi = a :: b :: rest)
    (ha : a.ok = true) (hb : b.ok = true) {e : InitEntry} (he : e.data ≠ []) :
    sendEntry e s = .ok (delay e.delay (s.sent (BitVec.ofNat 64 a.ticks + BitVec.ofNat 64 b.ticks) true rest
      [.spiData e.data true, .spiCmd e.op true])) := by
  unfold sendEntry
  rw [dsCmd_sent h ha, Run.ok_andThen, if_neg he, dsData_sent (sent_spi ..) hb, sent_sent, Run.ok_andThen]
  rfl

/-- The window encoder on a good sink: five transfers, then the registers. -/
theorem setWindow_given {s : State} {a b c d e : SpiAnswer} {rest : List SpiAnswer}
    (h : s.env.spi = a :: b :: c :: d :: e :: rest) (ha : a.ok = true) (hb : b.ok = true) (hc : c.ok = true)
    (hd : d.ok = true) (he : e.ok = true) (x0 y0 x1 y1 : Half) :
    setWindow x0 y0 x1 y1 s = .ok (openWindow x0 y0 x1 y1 (s.sent
      (BitVec.ofNat 64 a.ticks + BitVec.ofNat 64 b.ticks + (BitVec.ofNat 64 c.ticks + BitVec.ofNat 64 d.ticks)
        + BitVec.ofNat 64 e.ticks) false rest
      [.spiCmd s.cfg.dsOpRamwr true, .spiData (boundBytes y0 y1) true, .spiCmd s.cfg.dsOpRaset true,
        .spiData (boundBytes x0 x1) true, .spiCmd s.cfg.dsOpCaset true])) := by
  unfold setWindow sendRamwr
  rw [sendCaset_given h ha hb, Run.ok_andThen, sendRaset_given (sent_spi ..) hc hd, Run.ok_andThen, sent_sent,
    dsCmd_sent (sent_spi ..) he, sent_sent, Run.ok_andThen]
  rfl

/-- The window encoder, whatever the sink answers: it opens the window, or fails with the stream dropped; the rest of the block's
registers stay. -/
theorem setWindow_cases (x0 y0 x1 y1 : Half) (s : State) :
    (∃ m, setWindow x0 y0 x1 y1 s = .ok (openWindow x0 y0 x1 y1 m) ∧ m.cfg = s.cfg ∧ m.busy = s.busy ∧ m.sws = s.sws
        ∧ m.cbs = s.cbs ∧ m.dsp = { s.dsp with dc := false, csN := if s.cfg.dsHasCs then true else s.dsp.csN }
        ∧ m.obs = { s.obs with events := [.spiCmd s.cfg.dsOpRamwr true, .spiData (boundBytes y0 y1) true,
          .spiCmd s.cfg.dsOpRaset true, .spiData (boundBytes x0 x1) true, .spiCmd s.cfg.dsOpCaset true]
            ++ s.obs.events })
      ∨ ∃ m, setWindow x0 y0 x1 y1 s = .err .busError (dropStream m) ∧ m.cfg = s.cfg ∧ m.busy = s.busy ∧ m.sws = s.sws
        ∧ m.cbs = s.cbs ∧ m.obs.responses = s.obs.responses ∧ m.dsp.ready = s.dsp.ready ∧ m.dsp.bl = s.dsp.bl
        ∧ m.dsp.rstN = s.dsp.rstN ∧ m.dsp.chunk = s.dsp.chunk := by
  unfold setWindow sendCaset sendRaset sendRamwr
  rcases dsCmd_cases s.cfg.dsOpCaset s with ⟨m1, h1, t1⟩ | ⟨m1, h1, t1⟩
  · rw [h1, Run.ok_andThen]
    rcases dsData_cases (boundBytes x0 x1) m1 with ⟨m2, h2, t2⟩ | ⟨m2, h2, t2⟩
    · rw [h2, Run.ok_andThen]
      rcases dsCmd_cases m2.cfg.dsOpRaset m2 with ⟨m3, h3, t3⟩ | ⟨m3, h3, t3⟩
      · rw [h3, Run.ok_andThen]
        rcases dsData_cases (boundBytes y0 y1) m3 with ⟨m4, h4, t4⟩ | ⟨m4, h4, t4⟩
        · rw [h4, Run.ok_andThen]
          rcases dsCmd_cases m4.cfg.dsOpRamwr m4 with ⟨m5, h5, t5⟩ | ⟨m5, h5, t5⟩
          · rw [h5, Run.ok_andThen]
            refine .inl ⟨m5, rfl, ?_⟩
            cases hc : s.cfg.dsHasCs <;>
              simp [t5.cfg, t4.cfg, t3.cfg, t2.cfg, t1.cfg, t5.busy, t4.busy, t3.busy, t2.busy, t1.busy, t5.sws,
                t4.sws, t3.sws, t2.sws, t1.sws, t5.cbs, t4.cbs, t3.cbs, t2.cbs, t1.cbs, t5.dsp, t4.dsp, t3.dsp,
                t2.dsp, t1.dsp, t5.obs, t4.obs, t3.obs, t2.obs, t1.obs, hc]
          · rw [h5, Run.err_andThen]
            exact .inr ⟨m5, rfl, by
              simp [t5.cfg, t4.cfg, t3.cfg, t2.cfg, t1.cfg, t5.busy, t4.busy, t3.busy, t2.busy, t1.busy, t5.sws,
                t4.sws, t3.sws, t2.sws, t1.sws, t5.cbs, t4.cbs, t3.cbs, t2.cbs, t1.cbs, t5.dsp, t4.dsp, t3.dsp,
                t2.dsp, t1.dsp, t5.obs, t4.obs, t3.obs, t2.obs, t1.obs]⟩
        · rw [h4, Run.err_andThen, Run.err_andThen]
          exact .inr ⟨m4, rfl, by
            simp [t4.cfg, t3.cfg, t2.cfg, t1.cfg, t4.busy, t3.busy, t2.busy, t1.busy, t4.sws, t3.sws, t2.sws, t1.sws,
              t4.cbs, t3.cbs, t2.cbs, t1.cbs, t4.dsp, t3.dsp, t2.dsp, t1.dsp, t4.obs, t3.obs, t2.obs, t1.obs]⟩
      · rw [h3, Run.err_andThen, Run.err_andThen, Run.err_andThen]
        exact .inr ⟨m3, rfl, by
          simp [t3.cfg, t2.cfg, t1.cfg, t3.busy, t2.busy, t1.busy, t3.sws, t2.sws, t1.sws, t3.cbs, t2.cbs, t1.cbs,
            t3.dsp, t2.dsp, t1.dsp, t3.obs, t2.obs, t1.obs]⟩
    · rw [h2, Run.err_andThen, Run.err_andThen, Run.err_andThen]
      exact .inr ⟨m2, rfl, by
        simp [t2.cfg, t1.cfg, t2.busy, t1.busy, t2.sws, t1.sws, t2.cbs, t1.cbs, t2.dsp, t1.dsp, t2.obs, t1.obs]⟩
  · rw [h1, Run.err_andThen, Run.err_andThen, Run.err_andThen, Run.err_andThen]
    exact .inr ⟨m1, rfl, by simp [t1.cfg, t1.busy, t1.sws, t1.cbs, t1.dsp, t1.obs]⟩

end Sys2Proof.Machine
end

