-- ==== Sys2Proof/Laws/PerInstr.lean ====
section
/-! SUPPORT. Facts of every instruction as syntax, one lemma per constructor. -/

namespace Sys2Proof.Laws.PacketLength

/-- The length of a command's packet follows from its byte 0, and for format T from its byte 10 (`30_encoding.md` R106); a wire command
has no packet. -/
def Statement (i : Instr) : Prop :=
  i.wellFormed = true →
    if i.isCommand = true then (encode i).length = packetLength ((encode i).getD 0 0) ((encode i).getD 10 0)
    else encode i = []

theorem swMeasure : Statement .swMeasure := fun _ => rfl

theorem swTemperature : Statement .swTemperature := fun _ => rfl

theorem swHumidity : Statement .swHumidity := fun _ => rfl

theorem cbNew (addr : BitVec 7) : Statement (.cbNew addr) := fun _ => rfl

theorem cbRead : Statement .cbRead := fun _ => rfl

theorem cbAltitude (p p0 : Word) : Statement (.cbAltitude p p0) := fun _ => rfl

theorem dsNew : Statement .dsNew := fun _ => rfl

theorem dsSetWindow (x0 y0 x1 y1 : Half) : Statement (.dsSetWindow x0 y0 x1 y1) := fun _ => rfl

theorem dsFillRect (x y w h color : Half) : Statement (.dsFillRect x y w h color) := fun _ => rfl

theorem dsPixel (x y color : Half) : Statement (.dsPixel x y color) := fun _ => rfl

theorem dsDrawText (x y color : Half) (hasBg : Bool) (bg : Half) (text : List Byte) : Statement (.dsDrawText x y color hasBg bg text) :=
  by
  intro h
  have hlen : text.length ≤ 255 := of_decide_eq_true h
  have hmod : text.length % 256 = text.length := Nat.mod_eq_of_lt (by omega)
  simp [Instr.isCommand, encode, packetLength, bytes16, BitVec.toNat_ofNat, hmod]
  omega

theorem dsPush (color : Half) : Statement (.dsPush color) := fun _ => rfl

theorem dsOpSwreset : Statement .dsOpSwreset := fun _ => rfl

theorem dsOpSlpout : Statement .dsOpSlpout := fun _ => rfl

theorem dsOpMadctl : Statement .dsOpMadctl := fun _ => rfl

theorem dsOpColmod : Statement .dsOpColmod := fun _ => rfl

theorem dsOpPorctrl : Statement .dsOpPorctrl := fun _ => rfl

theorem dsOpGctrl : Statement .dsOpGctrl := fun _ => rfl

theorem dsOpVcoms : Statement .dsOpVcoms := fun _ => rfl

theorem dsOpLcmctrl : Statement .dsOpLcmctrl := fun _ => rfl

theorem dsOpPwr1 : Statement .dsOpPwr1 := fun _ => rfl

theorem dsOpPwr2 : Statement .dsOpPwr2 := fun _ => rfl

theorem dsOpPwr3 : Statement .dsOpPwr3 := fun _ => rfl

theorem dsOpFrctrl : Statement .dsOpFrctrl := fun _ => rfl

theorem dsOpPvgam : Statement .dsOpPvgam := fun _ => rfl

theorem dsOpNvgam : Statement .dsOpNvgam := fun _ => rfl

theorem dsOpInvon : Statement .dsOpInvon := fun _ => rfl

theorem dsOpDispon : Statement .dsOpDispon := fun _ => rfl

theorem dsOpCaset (x0 x1 : Half) : Statement (.dsOpCaset x0 x1) := fun _ => rfl

theorem dsOpRaset (y0 y1 : Half) : Statement (.dsOpRaset y0 y1) := fun _ => rfl

theorem dsOpRamwr : Statement .dsOpRamwr := fun _ => rfl

end Sys2Proof.Laws.PacketLength
end

