-- ==== Sys2Proof/Laws/Sequencer.lean ====
section
/-! SUPPORT. What one statement of a sequencer can touch, said once for CBS and once for DSP. -/

namespace Sys2Proof.Machine

/-- `t` differs from `s` in nothing that CBS does not own: only its registers, the clock, the I2C answers, the history, and where its
operation ends `BUSY` and the release of the line (`00_scope.md` R2, `60_exceptions.md` R268). -/
structure CbsOnly (s t : State) : Prop where
  cfg  : t.cfg = s.cfg
  sws  : t.sws = s.sws ∨ t.sws = { s.sws with oe := false }
  dsp  : t.dsp = s.dsp
  port : t.env.port = s.env.port
  line : t.env.line = s.env.line
  spi  : t.env.spi = s.env.spi

/-- The same for DSP. -/
structure DspOnly (s t : State) : Prop where
  cfg  : t.cfg = s.cfg
  sws  : t.sws = s.sws ∨ t.sws = { s.sws with oe := false }
  cbs  : t.cbs = s.cbs
  port : t.env.port = s.env.port
  line : t.env.line = s.env.line
  i2c  : t.env.i2c = s.env.i2c

/-- Nothing but the line's release is written in SWS: the two transitions compose. -/
theorem sws_trans {a b c : Sws} (h1 : b = a ∨ b = { a with oe := false }) (h2 : c = b ∨ c = { b with oe := false }) :
    c = a ∨ c = { a with oe := false } := by
  rcases h1 with rfl | rfl <;> rcases h2 with rfl | rfl <;> simp

theorem CbsOnly.rfl {s : State} : CbsOnly s s := ⟨Eq.refl _, .inl (Eq.refl _), Eq.refl _, Eq.refl _, Eq.refl _, Eq.refl _⟩

theorem CbsOnly.trans {s t u : State} (h : CbsOnly s t) (k : CbsOnly t u) : CbsOnly s u :=
  ⟨k.cfg.trans h.cfg, sws_trans h.sws k.sws, k.dsp.trans h.dsp, k.port.trans h.port, k.line.trans h.line, k.spi.trans h.spi⟩

theorem DspOnly.rfl {s : State} : DspOnly s s := ⟨Eq.refl _, .inl (Eq.refl _), Eq.refl _, Eq.refl _, Eq.refl _, Eq.refl _⟩

theorem DspOnly.trans {s t u : State} (h : DspOnly s t) (k : DspOnly t u) : DspOnly s u :=
  ⟨k.cfg.trans h.cfg, sws_trans h.sws k.sws, k.cbs.trans h.cbs, k.port.trans h.port, k.line.trans h.line, k.i2c.trans h.i2c⟩

/-- Where the statement and what follows it stay inside a relation, so does going on. -/
theorem Run.goOn_ends {P : State → Prop} {u : BlockUnit} {next : State → State} {r : Run} (hr : r.Ends P)
    (hn : ∀ s, P s → P (next s)) (hf : ∀ e s, P s → P (s.fail u e)) : P (r.goOn u next) := by
  cases r with
  | ok s => exact hn s hr
  | err e s => exact hf e s hr

theorem cbsOnly_fail {s t : State} (e : Status) (h : CbsOnly s t) : CbsOnly s (t.fail .cbs e) :=
  h.trans ⟨rfl, .inr rfl, rfl, rfl, rfl, rfl⟩

theorem cbsOnly_at {s t : State} (q : CbSeq) (h : CbsOnly s t) : CbsOnly s (t.cbAt q) :=
  h.trans ⟨rfl, .inl rfl, rfl, rfl, rfl, rfl⟩

theorem cbsOnly_respond {s t : State} (p : List Byte) (h : CbsOnly s t) : CbsOnly s (t.respond .cbs p) :=
  h.trans ⟨rfl, .inl rfl, rfl, rfl, rfl, rfl⟩

theorem cbsOnly_i2cRead {s t : State} (a : BitVec 7) (reg : Byte) (n : Nat) (h : CbsOnly s t) :
    CbsOnly s (i2cRead a reg n t).2 := by
  obtain ⟨h1, _, h3, _, h5, h6, h7, h8, _⟩ := i2cRead_frame a reg n t
  exact h.trans ⟨h1, .inl h3, h5, h6, h7, h8⟩

theorem cbsOnly_i2cWrite {s t : State} (a : BitVec 7) (reg : Byte) (bytes : List Byte) (h : CbsOnly s t) :
    CbsOnly s (i2cWrite a reg bytes t).2 := by
  obtain ⟨h1, _, h3, _, h5, h6, h7, h8, _⟩ := i2cWrite_frame a reg bytes t
  exact h.trans ⟨h1, .inl h3, h5, h6, h7, h8⟩

theorem cbsOnly_probe {s t : State} (addr : BitVec 7) (second : Bool) (h : CbsOnly s t) :
    CbsOnly s (probe addr second t).2 := cbsOnly_i2cRead _ _ _ (cbsOnly_at _ h)

theorem cbsOnly_loseInstance {s t : State} (h : CbsOnly s t) : CbsOnly s (loseInstance t) :=
  h.trans ⟨rfl, .inl rfl, rfl, rfl, rfl, rfl⟩

theorem cbsOnly_calib {s t : State} (found : BitVec 7) (h : CbsOnly s t) : (cbCalib found t).Ends (CbsOnly s) := by
  have hr := cbsOnly_i2cRead found t.cfg.cbRegCalib Config.calibLen (cbsOnly_at (.calib found) h)
  unfold cbCalib
  dsimp only
  split
  · exact cbsOnly_loseInstance hr
  · exact hr.trans ⟨rfl, .inl rfl, rfl, rfl, rfl, rfl⟩

theorem cbsOnly_config {s t : State} (found : BitVec 7) (h : CbsOnly s t) : (cbConfig found t).Ends (CbsOnly s) := by
  have hr := cbsOnly_i2cWrite found t.cfg.cbRegCtrl [t.cfg.cbCtrlValue] (cbsOnly_at (.config found) h)
  unfold cbConfig
  dsimp only
  split
  · exact hr
  · exact cbsOnly_loseInstance hr

theorem cbsOnly_check {s t : State} (h : CbsOnly s t) : (cbCheck t).Ends (CbsOnly s) := by
  unfold cbCheck
  split
  · exact cbsOnly_at _ h
  · exact h

theorem cbsOnly_readT {s t : State} (h : CbsOnly s t) : (cbReadT t).Ends (CbsOnly s) := by
  have hr := cbsOnly_i2cRead t.cbs.addr t.cfg.cbRegTemp 3 (cbsOnly_at .rdT h)
  unfold cbReadT
  dsimp only
  split
  · exact hr
  · exact hr.trans ⟨rfl, .inl rfl, rfl, rfl, rfl, rfl⟩

theorem cbsOnly_readP {s t : State} (h : CbsOnly s t) : (cbReadP t).Ends (CbsOnly s) := by
  have hr := cbsOnly_i2cRead t.cbs.addr t.cfg.cbRegPress 3 (cbsOnly_at .rdP h)
  unfold cbReadP
  dsimp only
  split
  · exact hr
  · exact hr.trans ⟨rfl, .inl rfl, rfl, rfl, rfl, rfl⟩

/-- A statement of CBS touches nothing that is not its own. -/
theorem cbStatement_frame (s : State) : CbsOnly s (cbStatement s) := by
  unfold cbStatement
  split
  case h_1 => exact .rfl
  case h_2 => exact ⟨rfl, .inl rfl, rfl, rfl, rfl, rfl⟩
  case h_3 addr second _ =>
    have hp := cbsOnly_probe addr second (CbsOnly.rfl (s := s))
    dsimp only
    split
    · exact cbsOnly_at _ hp
    · split
      · exact cbsOnly_fail _ hp
      · exact cbsOnly_at _ hp
  case h_4 => exact Run.goOn_ends (cbsOnly_calib _ .rfl) (fun _ => cbsOnly_at _) fun e _ => cbsOnly_fail e
  case h_5 => exact Run.goOn_ends (cbsOnly_config _ .rfl) (fun _ => cbsOnly_at _) fun e _ => cbsOnly_fail e
  case h_6 => exact ⟨rfl, .inl rfl, rfl, rfl, rfl, rfl⟩
  case h_7 => exact Run.goOn_ends (cbsOnly_check .rfl) (fun _ => cbsOnly_at _) fun e _ => cbsOnly_fail e
  case h_8 => exact Run.goOn_ends (cbsOnly_readT .rfl) (fun _ => cbsOnly_at _) fun e _ => cbsOnly_fail e
  case h_9 => exact Run.goOn_ends (cbsOnly_readP .rfl) (fun _ => cbsOnly_at _) fun e _ => cbsOnly_fail e
  case h_10 => exact ⟨rfl, .inl rfl, rfl, rfl, rfl, rfl⟩
  case h_11 =>
    split
    · exact cbsOnly_fail _ .rfl
    · exact cbsOnly_at _ .rfl
  case h_12 => exact ⟨rfl, .inl rfl, rfl, rfl, rfl, rfl⟩

theorem dspOnly_fail {s t : State} (e : Status) (h : DspOnly s t) : DspOnly s (t.fail .dsp e) :=
  h.trans ⟨rfl, .inr rfl, rfl, rfl, rfl, rfl⟩

theorem dspOnly_at {s t : State} (q : DsSeq) (h : DspOnly s t) : DspOnly s (t.dsAt q) :=
  h.trans ⟨rfl, .inl rfl, rfl, rfl, rfl, rfl⟩

/-- A checked transfer. -/
theorem dspOnly_transfer {s t : State} {r : Run} {e f : Event} {dc : Bool} (h : DspOnly s t)
    (hr : (∃ u, r = .ok u ∧ Transferred e dc t u) ∨ ∃ u, r = .err .busError (dropStream u) ∧ Transferred f dc t u) :
    r.Ends (DspOnly s) := by
  rcases hr with ⟨u, rfl, k⟩ | ⟨u, rfl, k⟩ <;>
    exact h.trans ⟨k.cfg, .inl k.sws, k.cbs, k.port, k.line, k.i2c⟩

theorem dspOnly_setWindow {s t : State} (x0 y0 x1 y1 : Half) (h : DspOnly s t) :
    (setWindow x0 y0 x1 y1 t).Ends (DspOnly s) := by
  refine Run.ends_andThen (Run.ends_andThen (Run.ends_andThen (Run.ends_andThen ?_ ?_) ?_) ?_) ?_
  · exact dspOnly_transfer h (dsCmd_cases _ _)
  · exact fun _ k => dspOnly_transfer k (dsData_cases _ _)
  · exact fun _ k => Run.ends_andThen (dspOnly_transfer k (dsCmd_cases _ _)) fun _ k => dspOnly_transfer k (dsData_cases _ _)
  · exact fun _ k => dspOnly_transfer k (dsCmd_cases _ _)
  · exact fun _ k => k.trans ⟨rfl, .inl rfl, rfl, rfl, rfl, rfl⟩

theorem dspOnly_streamChunk {s t : State} (n : Nat) (h : DspOnly s t) : (streamChunk n t).Ends (DspOnly s) :=
  Run.ends_andThen (dspOnly_transfer (dspOnly_at _ h) (dsData_cases _ _)) fun _ k =>
    k.trans ⟨rfl, .inl rfl, rfl, rfl, rfl, rfl⟩

theorem dspOnly_backlight (s : State) : DspOnly s (backlightOn s) := by
  unfold backlightOn
  split <;> exact ⟨rfl, .inl rfl, rfl, rfl, rfl, rfl⟩

/-- A statement of DSP that is no wire command touches nothing that is not its own. -/
theorem dsStatement_frame (s : State) : DspOnly s (dsStatement s) := by
  unfold dsStatement
  split
  case h_1 => exact ⟨rfl, .inl rfl, rfl, rfl, rfl, rfl⟩
  case h_2 => exact ⟨rfl, .inl rfl, rfl, rfl, rfl, rfl⟩
  case h_3 => exact dspOnly_at _ (dspOnly_backlight s)
  case h_4 => exact ⟨rfl, .inl rfl, rfl, rfl, rfl, rfl⟩
  case h_5 => split <;> exact ⟨rfl, .inl rfl, rfl, rfl, rfl, rfl⟩
  case h_6 => exact Run.goOn_ends (dspOnly_setWindow _ _ _ _ .rfl) (fun _ => dspOnly_at _) fun e _ => dspOnly_fail e
  case h_7 => exact ⟨rfl, .inl rfl, rfl, rfl, rfl, rfl⟩
  case h_8 =>
    split
    · exact ⟨rfl, .inl rfl, rfl, rfl, rfl, rfl⟩
    · exact Run.goOn_ends (dspOnly_streamChunk _ .rfl) (fun _ => dspOnly_at _) fun e _ => dspOnly_fail e
  all_goals exact .rfl

end Sys2Proof.Machine
end

