-- ==== Sys2Proof/Laws/SingleWire.lean ====
section
/-! SUPPORT. What the waits of the single-wire unit can do, said once, whatever the line does; and a high phase that does not end. -/

namespace Sys2Proof.Machine

/-- `t` is `s` after sampling these levels (newest first): the clock, the environment's line and the history have moved; `sws` is said
apart. -/
structure Sampled (levels : List Bool) (s t : State) : Prop where
  cfg    : t.cfg = s.cfg
  busy   : t.busy = s.busy
  cbs    : t.cbs = s.cbs
  dsp    : t.dsp = s.dsp
  port   : t.env.port = s.env.port
  i2c    : t.env.i2c = s.env.i2c
  spi    : t.env.spi = s.env.spi
  tick   : t.tick = s.tick + BitVec.ofNat 64 levels.length
  obs    : t.obs = { s.obs with events := levels.map Event.lineSample ++ s.obs.events }

theorem Sampled.refl (s : State) : Sampled [] s s where
  cfg := rfl
  busy := rfl
  cbs := rfl
  dsp := rfl
  port := rfl
  i2c := rfl
  spi := rfl
  tick := (BitVec.add_zero s.tick).symm
  obs := rfl

theorem Sampled.trans {l l' : List Bool} {s t u : State} (h : Sampled l s t) (h' : Sampled l' t u) :
    Sampled (l' ++ l) s u where
  cfg := h'.cfg.trans h.cfg
  busy := h'.busy.trans h.busy
  cbs := h'.cbs.trans h.cbs
  dsp := h'.dsp.trans h.dsp
  port := h'.port.trans h.port
  i2c := h'.i2c.trans h.i2c
  spi := h'.spi.trans h.spi
  tick := by
    rw [h'.tick, h.tick, List.length_append, Nat.add_comm l'.length, BitVec.ofNat_add, BitVec.add_assoc]
  obs := by simp [h'.obs, h.obs]

/-- One sample, whatever the line does. -/
theorem lineSample_sampled (s : State) : Sampled [(lineSample s).1] s (lineSample s).2 := by
  cases h : s.env.line <;> constructor <;> simp [lineSample, State.nextLevel, h]

/-- Counting a sample moves `SW_CNT` alone. -/
theorem Sampled.counted {l : List Bool} {s t : State} (h : Sampled l s t) (n : Nat) : Sampled l s (t.swCount n) :=
  ⟨h.cfg, h.busy, h.cbs, h.dsp, h.port, h.i2c, h.spi, h.tick, h.obs⟩

/-- A wait, whatever the line does: at most n samples, at least one if it found its level; `SW_CNT` counts those of the other level. -/
theorem waitLevel_cases (level : Bool) (n : Nat) (s : State) :
    ∃ l k, Sampled l s (waitLevel level n s).2 ∧ l.length ≤ n
      ∧ (waitLevel level n s).2.sws = { s.sws with cnt := s.sws.cnt + k }
      ∧ ((waitLevel level n s).1 = true → l.length = k + 1) ∧ ((waitLevel level n s).1 = false → l.length = n ∧ k = n) := by
  induction n generalizing s with
  | zero => exact ⟨[], 0, Sampled.refl s, Nat.le_refl 0, rfl, ⟨nofun, fun _ => ⟨rfl, rfl⟩⟩⟩
  | succ n ih =>
    have hs := lineSample_sampled s
    have hsws := (lineSample_frame s).2.2.1
    rw [waitLevel]
    split
    · exact ⟨_, 0, hs, by simp, hsws, fun _ => rfl, nofun⟩
    · obtain ⟨l, k, h1, h2, h3, h4, h5⟩ := ih ((lineSample s).2.swCount ((lineSample s).2.sws.cnt + 1))
      refine ⟨_, k + 1, (hs.counted _).trans h1, by simpa using h2, ?_, fun h => ?_, fun h => ?_⟩
      · rw [h3]
        simp [State.swCount, hsws, Nat.add_comm, Nat.add_left_comm]
      · simpa using h4 h
      · simpa using h5 h

/-- A high phase, whatever the line does: at most n samples, at least one if it ended; `SW_CNT` counts the high ones. -/
theorem measureHigh_cases (n : Nat) (s : State) :
    ∃ l k, Sampled l s (measureHigh n s).2 ∧ l.length ≤ n
      ∧ (measureHigh n s).2.sws = { s.sws with cnt := s.sws.cnt + k }
      ∧ ((measureHigh n s).1 = true → l.length = k + 1) ∧ ((measureHigh n s).1 = false → l.length = n ∧ k = n) := by
  induction n generalizing s with
  | zero => exact ⟨[], 0, Sampled.refl s, Nat.le_refl 0, rfl, ⟨nofun, fun _ => ⟨rfl, rfl⟩⟩⟩
  | succ n ih =>
    have hs := lineSample_sampled s
    have hsws := (lineSample_frame s).2.2.1
    rw [measureHigh]
    split
    · obtain ⟨l, k, h1, h2, h3, h4, h5⟩ := ih ((lineSample s).2.swCount ((lineSample s).2.sws.cnt + 1))
      refine ⟨_, k + 1, (hs.counted _).trans h1, by simpa using h2, ?_, fun h => ?_, fun h => ?_⟩
      · rw [h3]
        simp [State.swCount, hsws, Nat.add_comm, Nat.add_left_comm]
      · simpa using h4 h
      · simpa using h5 h
    · exact ⟨_, 0, hs, by simp, hsws, fun _ => rfl, nofun⟩

/-- A high phase that fills its bound times out. -/
theorem measureHigh_timeout (n : Nat) (rest : List Bool) (s : State)
    (h : s.env.line = List.replicate n true ++ rest) : (measureHigh n s).1 = false := by
  induction n generalizing s with
  | zero => rfl
  | succ n ih =>
    simp only [List.replicate_succ, List.cons_append] at h
    rw [measureHigh, lineSample_given h, if_pos rfl]
    exact ih _ rfl

end Sys2Proof.Machine
end

