-- ==== Sys2Proof/Machine/Framing.lean ====
section
/-! DEFINITION. What a transaction looks like on its wires (`30_encoding.md` R108, R111; `20_memory.md` R75): a reading of an event, which
no operation depends on. PRESUMED: the spec marks the I2C framing and the bit order as general knowledge (GK2; log 18). -/

namespace Sys2Proof.Machine

/-- What passes on the sensor bus. -/
inductive I2cSymbol where
  | start
  | byte (b : Byte)
  | stop
  deriving DecidableEq, Repr

/-- The address byte: `{a, 0}` to write, `{a, 1}` to read. -/
def addressByte (a : BitVec 7) (read : Bool) : Byte := a ++ BitVec.ofBool read

/-- The symbols of an acknowledged transaction; none for any other event. -/
def i2cSymbols : Event → List I2cSymbol
  | .i2cRead a reg _ (some bytes) =>
    [.start, .byte (addressByte a false), .byte reg, .start, .byte (addressByte a true)] ++ bytes.map .byte ++ [.stop]
  | .i2cWrite a reg bytes true =>
    [.start, .byte (addressByte a false), .byte reg] ++ bytes.map .byte ++ [.stop]
  | .i2cRead _ _ _ none | .i2cWrite _ _ _ false | .lineDrive _ | .lineRelease | .lineSample _ | .spiCmd _ _
  | .spiData _ _ | .delay _ | .pin _ _ => []

/-- A byte on the wire, most significant bit first. -/
def bitsMsbFirst (b : Byte) : List Bool := (List.range 8).map fun i => b.getLsbD (7 - i)

/-- The display bus during a transfer: the level of `DS_DC`, constant throughout, and the bits clocked out. -/
def spiFrame : Event → Option (Bool × List Bool)
  | .spiCmd b _ => some (false, bitsMsbFirst b)
  | .spiData bytes _ => some (true, bytes.flatMap bitsMsbFirst)
  | .i2cRead _ _ _ _ | .i2cWrite _ _ _ _ | .lineDrive _ | .lineRelease | .lineSample _ | .delay _ | .pin _ _ => none

end Sys2Proof.Machine
end

