-- ==== Sys2Proof/Tests/Slice0.lean ====
section
/-! SUPPORT. Tests: expected values come from `95_test_vectors.md` (the vector is named) or by hand from the rule named. The
`witness_` theorems show, for each statement of the obligations with hypotheses, a state and operands that meet them. -/

namespace Sys2Proof.Tests

-- one theorem after another: elaborated all at once they take more memory than a check may use
set_option Elab.async false

open Sys2Proof Sys2Proof.Machine Sys2Proof.Claims

/-! ## Fixtures -/

/-- `FX_A` of the vectors: bit 8·row + col. -/
def glyphA : BitVec 64 := 0x003333_3F33331E0C

/-- The vectors' parameters, with an interval of 2 ticks and `FX_A` at glyph 33. -/
def fx : Config :=
  { Config.default with
    swMinInterval := 2, dsFont := Vector.ofFn fun g : Fin 95 => if g = 33 then glyphA else if g = 0 then 0 else 1 }

/-- The fixture block at reset. -/
def idleState : State := State.resetWith fx

def withLine (l : List Bool) (s : State) : State := { s with env := { s.env with line := l } }

def withI2c (l : List I2cAnswer) (s : State) : State := { s with env := { s.env with i2c := l } }

def withSpi (l : List SpiAnswer) (s : State) : State := { s with env := { s.env with spi := l } }

def withPort (l : List HostMove) (s : State) : State := { s with env := { s.env with port := l } }

/-- n transfers taken, in no time. -/
def taken (n : Nat) : List SpiAnswer := List.replicate n ⟨0, true⟩

/-- One transfer that fails. -/
def failed : List SpiAnswer := [⟨0, false⟩]

/-- The block after a `DS_NEW`, its sink taking n transfers. -/
def displayOn (n : Nat) : State := withSpi (taken n) { idleState with dsp := { idleState.dsp with ready := true } }

/-- With the window (0,0)–(1,0) open and r pixels left. -/
def windowOpen (n : Nat) (r : Word) : State :=
  let s := displayOn n
  { s with dsp := { s.dsp with x1 := 1, stream := true, remain := r } }

/-- With a reading taken at tick 0, now at tick n. -/
def readAt (n : Quad) : State :=
  { idleState with tick := n, sws := { idleState.sws with valid := true, temp := 0x19, hum := 0x28 } }

/-- The example device's coefficients (V-CB1), as registers. -/
def exampleCoeffs : Coeffs :=
  ⟨27504, 26435, -1000, 36477, -10685, 3024, 2855, 140, -7, 15500, -14600, 6000⟩

/-- A constructed sensor unit with these coefficients. -/
def sensorOn (k : Coeffs) : State :=
  { idleState with tick := 7000, cbs := { idleState.cbs with ready := true, addr := 0x77, coef := k } }

def ack (bytes : List Byte) : I2cAnswer := ⟨0, true, bytes⟩

def nack : I2cAnswer := ⟨0, false, []⟩

/-- The example device's calibration bytes. -/
def calibBytes : List Byte :=
  [0x70, 0x6B, 0x43, 0x67, 0x18, 0xFC, 0x7D, 0x8E, 0x43, 0xD6, 0xD0, 0x0B, 0x27, 0x0B, 0x8C, 0x00, 0xF9, 0xFF, 0x8C, 0x3C,
    0xF8, 0xC6, 0x70, 0x17]

/-- A device with the right identity at this address. -/
def device (a : BitVec 7) : BusDevice where
  addr := a
  regs := Vector.ofFn fun k : Fin 256 => if k = 0xD0 then 0x58 else BitVec.ofNat 8 k.val

/-- The standard sensor's frame for zeros, its first high phase h ticks long. -/
def zeroFrame (h : Nat) : SensorFrame where
  d0 := 2
  dl := 80
  dh := 80
  bits := (50, h) :: List.replicate 39 (50, 27)

/-- The next state, for the tests. -/
def after (i : Instr) (s : State) : State :=
  match exec i s with
  | .next t => t
  | .fault _ => s
  | .refused _ => s

/-- The newest response. -/
def said (s : State) : Option (List Byte) := s.obs.responses.head?

/-- The state after one step of the machine. -/
def stepped (s : State) : State :=
  match step s with
  | .next t => t
  | .fault _ => s
  | .refused _ => s

/-! ## Well-formedness -/

theorem test_text_of_256_is_ill_formed :
    (Instr.dsDrawText 0 0 0 false 0 (List.replicate 256 0x41)).wellFormed = false := by decide +kernel

theorem test_text_of_255_is_well_formed :
    (Instr.dsDrawText 0 0 0 false 0 (List.replicate 255 0x41)).wellFormed = true := by decide +kernel

theorem test_wire_command_is_no_host_command : (Instr.dsOpCaset 0 239).isCommand = false := by decide

theorem test_altitude_is_absent_without_it :
    (Instr.cbAltitude 1 1).present false = false ∧ (Instr.cbAltitude 1 1).present true = true := by decide

/-! ## Decoding, word by word (V-EN1, V-EN2) -/

theorem test_decode_swMeasure : decode true [0x10] = .ok .swMeasure := by decide
theorem test_decode_swTemperature : decode true [0x11] = .ok .swTemperature := by decide
theorem test_decode_swHumidity : decode true [0x12] = .ok .swHumidity := by decide
theorem test_decode_cbNew : decode true [0x20, 0x76] = .ok (.cbNew 0x76) := by decide
theorem test_decode_cbRead : decode true [0x21] = .ok .cbRead := by decide
theorem test_decode_cbAltitude :
    decode true [0x22, 0x01, 0x89, 0x2D, 0x41, 0x01, 0x8B, 0xCD, 0x00] = .ok (.cbAltitude 25767233 25939200) := by decide
theorem test_decode_dsNew : decode true [0x30] = .ok .dsNew := by decide
theorem test_decode_dsSetWindow :
    decode true [0x31, 0x00, 0x01, 0x00, 0x02, 0x00, 0xEF, 0x01, 0x03] = .ok (.dsSetWindow 1 2 239 259) := by decide
theorem test_decode_dsFillRect :
    decode true [0x32, 0x00, 0x0A, 0x00, 0x14, 0x00, 0x64, 0x00, 0x32, 0xF8, 0x00] = .ok (.dsFillRect 10 20 100 50 0xF800) := by
  decide
theorem test_decode_dsPixel : decode true [0x33, 0x00, 0x03, 0x00, 0x05, 0xFF, 0xFF] = .ok (.dsPixel 3 5 0xFFFF) := by decide
theorem test_decode_dsDrawText :
    decode true [0x34, 0x00, 0x08, 0x00, 0x10, 0xFF, 0xFF, 0x01, 0x00, 0x1F, 0x02, 0x48, 0x69]
      = .ok (.dsDrawText 8 16 0xFFFF true 0x001F [0x48, 0x69]) := by decide
theorem test_decode_dsPush : decode true [0x35, 0x07, 0xE0] = .ok (.dsPush 0x07E0) := by decide

theorem test_decode_dsOpSwreset : decodeWire fx 0x01 [] = some .dsOpSwreset := by decide +kernel
theorem test_decode_dsOpSlpout : decodeWire fx 0x11 [] = some .dsOpSlpout := by decide +kernel
theorem test_decode_dsOpMadctl : decodeWire fx 0x36 [0x00] = some .dsOpMadctl := by decide +kernel
theorem test_decode_dsOpColmod : decodeWire fx 0x3A [0x55] = some .dsOpColmod := by decide +kernel
theorem test_decode_dsOpPorctrl : decodeWire fx 0xB2 [0x0C, 0x0C, 0x00, 0x33, 0x33] = some .dsOpPorctrl := by decide +kernel
theorem test_decode_dsOpGctrl : decodeWire fx 0xB7 [0x35] = some .dsOpGctrl := by decide +kernel
theorem test_decode_dsOpVcoms : decodeWire fx 0xBB [0x19] = some .dsOpVcoms := by decide +kernel
theorem test_decode_dsOpLcmctrl : decodeWire fx 0xC0 [0x2C] = some .dsOpLcmctrl := by decide +kernel
theorem test_decode_dsOpPwr1 : decodeWire fx 0xC3 [0x12] = some .dsOpPwr1 := by decide +kernel
theorem test_decode_dsOpPwr2 : decodeWire fx 0xC4 [0x20] = some .dsOpPwr2 := by decide +kernel
theorem test_decode_dsOpPwr3 : decodeWire fx 0xD0 [0xA4, 0xA1] = some .dsOpPwr3 := by decide +kernel
theorem test_decode_dsOpFrctrl : decodeWire fx 0xC6 [0x0F] = some .dsOpFrctrl := by decide +kernel
theorem test_decode_dsOpPvgam :
    decodeWire fx 0xE0 [0xD0, 0x04, 0x0D, 0x11, 0x13, 0x2B, 0x3F, 0x54, 0x4C, 0x18, 0x0D, 0x0B, 0x1F, 0x23]
      = some .dsOpPvgam := by decide +kernel
theorem test_decode_dsOpNvgam :
    decodeWire fx 0xE1 [0xD0, 0x04, 0x0C, 0x11, 0x13, 0x2C, 0x3F, 0x44, 0x51, 0x2F, 0x1F, 0x1F, 0x20, 0x23]
      = some .dsOpNvgam := by decide +kernel
theorem test_decode_dsOpInvon : decodeWire fx 0x21 [] = some .dsOpInvon := by decide +kernel
theorem test_decode_dsOpDispon : decodeWire fx 0x29 [] = some .dsOpDispon := by decide +kernel
theorem test_decode_dsOpCaset : decodeWire fx 0x2A [0x00, 0x12, 0x00, 0xC9] = some (.dsOpCaset 18 201) := by decide +kernel
theorem test_decode_dsOpRaset : decodeWire fx 0x2B [0x00, 0x34, 0x00, 0xEF] = some (.dsOpRaset 52 239) := by decide +kernel
theorem test_decode_dsOpRamwr : decodeWire fx 0x2C [] = some .dsOpRamwr := by decide +kernel

theorem test_reserved_opcodes_are_illegal :
    [[0x00], [0x13], [0x23], [0x36], [0xFF]].map (decode true) = List.replicate 5 (.illegal .unknownOpcode) := by decide
theorem test_wrong_lengths_are_illegal :
    [[0x10, 0x00], [0x20], [0x31, 0, 0, 0, 0, 0, 0xEF, 0], [0x34, 0, 0, 0, 0, 0xFF, 0xFF, 0, 0, 0, 2, 0x41],
      [0x34, 0, 0, 0, 0, 0xFF, 0xFF, 0, 0, 0]].map (decode true) = List.replicate 5 (.illegal .wrongLength) := by decide
theorem test_reserved_bits_are_illegal :
    [[0x20, 0xF6], [0x34, 0, 0, 0, 0, 0xFF, 0xFF, 2, 0, 0, 1, 0x41]].map (decode true)
      = List.replicate 2 (.illegal .reservedBit) := by decide
theorem test_absent_altitude_is_illegal :
    decode false [0x22, 1, 2, 3, 4, 5, 6, 7, 8] = .illegal .absentOperation := by decide
theorem test_ignored_background_is_legal :
    decode true [0x34, 0, 0, 0, 0, 0xFF, 0xFF, 0, 0x12, 0x34, 0] = .ok (.dsDrawText 0 0 0xFFFF false 0x1234 []) := by decide

/-- Where an initialization opcode is also a command's opcode the host layer wins (log 7). -/
theorem test_table_words :
    [0x10, 0x11, 0x21, 0x01, 0x29, 0x2A].map (decodeTableWord 8)
      = [some .swMeasure, some .swTemperature, some .cbRead, some .dsOpSwreset, some .dsOpDispon,
        some (.dsOpCaset 0 0)] := by decide +kernel

/-- A table word runs as the first instruction after reset: a packet, and a wire command. -/
theorem test_table_word_runs :
    said (stepped (State.reset.withFetchWord 8 0x12)) = some [6]
      ∧ step (State.reset.withFetchWord 8 0x2C)
        = inOperation (exec .dsOpRamwr (State.reset.withFetchWord 8 0x2C)) := ⟨by decide +kernel, rfl⟩

/-! ## SWS -/

/-- V-SW1: no sensor. -/
theorem test_swMeasure_without_a_sensor :
    said (after .swMeasure (withLine (List.replicate 100 true) idleState)) = some [1]
      ∧ (after .swMeasure (withLine (List.replicate 100 true) idleState)).tick = 208 := by decide +kernel

/-- V-SW6: a high phase of 42 ticks is a 1 and 41 is a 0, so the first frame fails its checksum; V-SW8 for zeros at tick 3351 + 14. -/
theorem test_swMeasure_threshold :
    said (after .swMeasure (withLine (zeroFrame 42).levels idleState)) = some [2]
      ∧ said (after .swMeasure (withLine (zeroFrame 41).levels idleState)) = some [0]
      ∧ (after .swMeasure (withLine (zeroFrame 41).levels idleState)).sws.ts = 3365 := by decide +kernel

/-- V-SW10. -/
theorem test_swTemperature : said (after .swTemperature idleState) = some [6]
    ∧ said (after .swTemperature (readAt 9)) = some [0, 0x19] := by decide

/-- V-SW10. -/
theorem test_swHumidity : said (after .swHumidity idleState) = some [6]
    ∧ said (after .swHumidity (readAt 9)) = some [0, 0x28] := by decide

/-- V-SW1's length, tick by tick: the operation is over after 208 ticks. -/
theorem test_tick_machine_enters_startL :
    (swTick^[50] (swEnterPre idleState)).sws.seq = .startL ∧ (swTick^[49] (swEnterPre idleState)).sws.seq = .pre := by
  decide +kernel

/-! ## CBS -/

/-- V-CB2: the dual-address probe. -/
theorem test_cbNew_finds_the_alternate :
    (after (.cbNew 0x76) (withI2c [nack, ack [0x58], ack calibBytes, ack []] idleState)).cbs.coef = exampleCoeffs
      ∧ (after (.cbNew 0x76) (withI2c [nack, ack [0x58], ack calibBytes, ack []] idleState)).cbs.addr = 0x77 := by
  decide +kernel

/-- V-CB2, last variant: identity 0x60, and nothing at the alternate. -/
theorem test_cbNew_not_found :
    said (after (.cbNew 0x76) (withI2c [ack [0x60], nack] (sensorOn exampleCoeffs))) = some [3]
      ∧ (after (.cbNew 0x76) (withI2c [ack [0x60], nack] (sensorOn exampleCoeffs))).cbs.ready = false := by decide +kernel

/-- V-CB3. -/
theorem test_cbRead :
    said (after .cbRead (withI2c [ack [0x7E, 0xED, 0x00], ack [0x65, 0x5A, 0xC0]] (sensorOn exampleCoeffs)))
      = some [0x00, 0x00, 0x00, 0x09, 0xCC, 0x01, 0x89, 0x2D, 0x41] := by decide +kernel

/-- V-CB6: the wrap-around. -/
theorem test_cbRead_wraps :
    said (after .cbRead (withI2c [ack [0xFF, 0xFF, 0xF0], ack [0, 0, 0]]
      (sensorOn ⟨0, 32767, 32767, 65535, 32767, 32767, 32767, 32767, -32768, 0, 0, 0⟩)))
      = some [0x00, 0x00, 0x01, 0x3F, 0xFC, 0xFF, 0x8C, 0xF2, 0xC4] := by decide +kernel

/-- V-CB10, the rows whose answer no implementation may choose. -/
theorem test_cbAltitude : said (after (.cbAltitude 25939200 25939200) idleState) = some [0, 0, 0, 0, 0]
    ∧ said (after (.cbAltitude 7 0) idleState) = some [7] := by decide +kernel

/-- V-CB10, first row: 5607 and 5608 are admissible, 5606 and 5609 are not. -/
theorem test_altitude_bound :
    [5606, 5607, 5608, 5609].map (altAdmissible 1 25767233 25939200) = [false, true, true, false] := by decide +kernel

/-- V-CB12. -/
theorem test_division_truncates :
    [(7, 2), (-7, 2), (7, -2), (-7, -2), (0, 5), (-1, 2)].map (fun p => (div64 (BitVec.ofInt 64 p.1) (BitVec.ofInt 64 p.2)).toInt)
      = [3, -3, -3, 3, 0, 0] := by decide +kernel

/-! ## DSP -/

/-- V-DS1: 590 ticks, ready, backlight on. -/
theorem test_dsNew : said (after .dsNew (withSpi (taken 28) idleState)) = some [0]
    ∧ (after .dsNew (withSpi (taken 28) idleState)).tick = 590
    ∧ (after .dsNew (withSpi (taken 28) idleState)).obs.events.take 3 = [.pin .bl true, .delay 120, .spiCmd 0x29 true] := by
  decide +kernel

/-- V-DS1, failure variant. -/
theorem test_dsNew_failing : said (after .dsNew (withSpi (taken 3 ++ failed) idleState)) = some [4]
    ∧ (after .dsNew (withSpi (taken 3 ++ failed) idleState)).dsp.ready = false := by decide +kernel

/-- V-DS2, second row. -/
theorem test_dsSetWindow :
    (after (.dsSetWindow 10 20 11 20) (displayOn 5)).obs.events.reverse
        = [.spiCmd 0x2A true, .spiData [0, 0x0A, 0, 0x0B] true, .spiCmd 0x2B true, .spiData [0, 0x14, 0, 0x14] true,
          .spiCmd 0x2C true]
      ∧ (after (.dsSetWindow 10 20 11 20) (displayOn 5)).dsp.remain = 2 := by decide +kernel

/-- V-DS4. -/
theorem test_dsSetWindow_rejects : said (after (.dsSetWindow 0 0 240 239) (displayOn 5)) = some [5]
    ∧ (after (.dsSetWindow 0 0 240 239) (displayOn 5)).obs.events = []
    ∧ said (after (.dsSetWindow 0 0 240 239) idleState) = some [6] := by decide +kernel

/-- V-DS5: 17 by 16 pixels are two transfers, of 256 and 16. -/
theorem test_dsFillRect :
    (after (.dsFillRect 0 0 17 16 0xABCD) (displayOn 7)).obs.events.take 1
        = [.spiData (List.replicate 16 [0xAB, 0xCD]).flatten true]
      ∧ (after (.dsFillRect 0 0 17 16 0xABCD) (displayOn 7)).obs.events.length = 7
      ∧ (after (.dsFillRect 0 0 17 16 0xABCD) (displayOn 7)).dsp.remain = 0 := by decide +kernel

/-- V-DS5: nothing left after clamping. -/
theorem test_dsFillRect_of_nothing : said (after (.dsFillRect 240 0 1 1 7) (displayOn 7)) = some [0]
    ∧ (after (.dsFillRect 240 0 1 1 7) (displayOn 7)).obs.events = [] := by decide +kernel

/-- V-DS6. -/
theorem test_dsPixel :
    (after (.dsPixel 3 5 0xFFFF) (displayOn 6)).obs.events.reverse
      = [.spiCmd 0x2A true, .spiData [0, 3, 0, 3] true, .spiCmd 0x2B true, .spiData [0, 5, 0, 5] true, .spiCmd 0x2C true,
        .spiData [0xFF, 0xFF] true] := by decide +kernel

/-- V-DS4. -/
theorem test_dsPixel_rejects : said (after (.dsPixel 240 0 1) (displayOn 6)) = some [5]
    ∧ said (after (.dsPixel 239 239 1) (displayOn 6)) = some [0] := by decide +kernel

/-- V-DS7: 168 transfers, the window of the last pixel, the cursor one cell on. -/
theorem test_dsDrawText :
    (after (.dsDrawText 0 0 0xFFFF false 0 [0x41]) (displayOn 168)).obs.events.length = 168
      ∧ (after (.dsDrawText 0 0 0xFFFF false 0 [0x41]) (displayOn 168)).dsp.x0 = 5
      ∧ (after (.dsDrawText 0 0 0xFFFF false 0 [0x41]) (displayOn 168)).dsp.y0 = 6
      ∧ (after (.dsDrawText 0 0 0xFFFF false 0 [0x41]) (displayOn 168)).dsp.cx = 8 := by decide +kernel

/-- V-DS9 (b): the wrap goes to the origin column. -/
theorem test_dsDrawText_wraps :
    (after (.dsDrawText 232 0 7 false 0 [0x41]) (displayOn 168)).dsp.cx = 232
      ∧ (after (.dsDrawText 232 0 7 false 0 [0x41]) (displayOn 168)).dsp.cy = 8 := by decide +kernel

/-- V-DS6. -/
theorem test_dsPush : (after (.dsPush 0xF800) (windowOpen 1 2)).obs.events = [.spiData [0xF8, 0x00] true]
    ∧ (after (.dsPush 0xF800) (windowOpen 1 2)).dsp.remain = 1
    ∧ said (after (.dsPush 0x001F) (windowOpen 1 0)) = some [5] := by decide +kernel

/-- V-DS1, the events of each entry. -/
theorem test_init_commands :
    (after .dsOpSwreset (displayOn 2)).obs.events = [.delay 150, .spiCmd 0x01 true]
      ∧ (after .dsOpPwr3 (displayOn 2)).obs.events = [.delay 0, .spiData [0xA4, 0xA1] true, .spiCmd 0xD0 true]
      ∧ (after .dsOpDispon (displayOn 2)).obs.events = [.delay 120, .spiCmd 0x29 true] := by decide +kernel

/-- V-DS2, third row. -/
theorem test_address_commands :
    (after (.dsOpCaset 18 201) (displayOn 2)).obs.events = [.spiData [0, 0x12, 0, 0xC9] true, .spiCmd 0x2A true]
      ∧ (after (.dsOpRaset 52 239) (displayOn 2)).obs.events = [.spiData [0, 0x34, 0, 0xEF] true, .spiCmd 0x2B true]
      ∧ (after .dsOpRamwr (displayOn 2)).obs.events = [.spiCmd 0x2C true] := by decide +kernel

/-- `30_encoding.md` R108: the configuration write of V-CB2 on its wires. -/
theorem test_i2c_framing : i2cSymbols (.i2cWrite 0x77 0xF4 [0x27] true)
    = [.start, .byte 0xEE, .byte 0xF4, .byte 0x27, .stop] := by decide

/-! ## Witnesses: what the statements assume can be met -/

theorem exec_eq_after (i : Instr) (s : State) : exec i s = .next (after i s) := by
  cases i <;> rfl

theorem fx_ok : fx.Ok := by constructor <;> decide +kernel

theorem fx_opcodes : fx.AddressOpsDistinct := by constructor <;> decide +kernel

theorem allOk_taken (n : Nat) : allOk (taken n) := fun a h => by rw [List.eq_of_mem_replicate h]

theorem witness_CommandPacketsDecodeBack :
    let i := Instr.dsDrawText 0 0 0 true 0 (List.replicate 255 0x41)
    i.isCommand = true ∧ i.wellFormed = true ∧ i.present false = true := by decide +kernel

theorem witness_LegalPacketsEncodeBack : decode false [0x20, 0x7F] = .ok (.cbNew 0x7F) := by decide

theorem witness_WireCommandsReadBack : fx.AddressOpsDistinct
    ∧ (∀ j k : Fin 16, fx.dsInitSeq[j].op = fx.dsInitSeq[k].op → j = k)
    ∧ encodeWire fx (.dsOpCaset 0 0xFFFF) = some (0x2A, [0, 0, 0xFF, 0xFF]) := ⟨fx_opcodes, by decide +kernel, by decide +kernel⟩

theorem witness_StepRunsThePresentedCommand :
    let s := withPort [.packet 0x20 [0x7F]] idleState
    s.busy = false ∧ s.env.port = [.packet 0x20 [0x7F]] ∧ decode s.cfg.cbHasAltitude [0x20, 0x7F] = .ok (.cbNew 0x7F) :=
  ⟨rfl, rfl, by decide⟩

theorem witness_StepAnswersIllegalPackets_legal :
    let s := withPort [.packet 0x34 [0, 0, 0, 0, 0, 0, 1, 0, 0, 0]] idleState
    s.busy = false ∧ legalPacket s.cfg.cbHasAltitude 0x34 [0, 0, 0, 0, 0, 0, 1, 0, 0, 0] :=
  ⟨rfl, .inr (.inr (.inr (.inr (.inr (.inr (.inl ⟨rfl, by decide, by decide, fun k h h' => by
    obtain rfl | rfl | rfl | rfl | rfl | rfl | rfl : k = 1 ∨ k = 2 ∨ k = 3 ∨ k = 4 ∨ k = 5 ∨ k = 6 ∨ k = 7 := by omega
    all_goals rfl⟩))))))⟩

theorem witness_StepAnswersIllegalPackets_illegal :
    let s := withPort [.packet 0x20 [0x80]] idleState
    s.busy = false ∧ ¬ legalPacket s.cfg.cbHasAltitude 0x20 [0x80] := ⟨rfl, by simp [legalPacket]⟩

theorem witness_StepLetsTicksPass :
    (withPort [.wait 0] idleState).busy = false ∧ (withPort [.wait 0] idleState).env.port = [.wait 0]
      ∧ idleState.busy = false ∧ idleState.env.port = [] := ⟨rfl, rfl, rfl, rfl⟩

/-- The block inside `DS_NEW`, at its last entry. -/
def atLastEntry (answers : List SpiAnswer) : State := (withSpi answers idleState).standingAt (.init 15)

theorem witness_StepRunsTheWireCommandAtItsLabel :
    let s := atLastEntry (taken 1)
    s.busy = true ∧ s.sws.seq = .idle ∧ s.env.port = [] ∧ wireAt s.dsp.seq = some .dsOpDispon
      ∧ exec .dsOpDispon s = .next (after .dsOpDispon s) := ⟨rfl, rfl, rfl, rfl, rfl⟩

theorem witness_BusyPortAcceptsNothing : (atLastEntry (taken 1)).busy = true := rfl

/-- By hand from `41_bus_sensor.md` R171: a probe of the second candidate that does not match ends the operation. -/
theorem test_step_of_the_second_probe :
    let s := withI2c [nack] { idleState with busy := true, cbs := { idleState.cbs with seq := .probe 0x76 true } }
    said (stepped s) = some [3] ∧ (stepped s).cbs.seq = .idle ∧ (stepped s).busy = false
      ∧ (stepped s).obs.events = [.i2cRead 0x77 0xD0 1 none] := by decide +kernel

/-- By hand from `42_display.md` R230: with 3 pixels left and chunks of 256, one transfer of 3 pixels. -/
theorem test_step_of_the_stream :
    let s := ({ windowOpen 1 3 with dsp := { (windowOpen 1 3).dsp with chunk := [7, 7, 7] } } : State).standingAt (.stream 3)
    (stepped s).dsp.seq = .stream 0 ∧ (stepped s).dsp.remain = 0
      ∧ (stepped s).obs.events = [.spiData [0, 7, 0, 7, 0, 7] true] := by decide +kernel

/-- The invariant, with a window open. -/
theorem witness_EveryStepKeepsTheInvariant :
    (withPort [.packet 0x35 [0, 0]] (windowOpen 1 2)).Inv
      ∧ ∃ t, step (withPort [.packet 0x35 [0, 0]] (windowOpen 1 2)) = .next t := by
  refine ⟨⟨fx_ok, ⟨rfl, rfl, rfl, rfl, rfl, rfl⟩, fun _ => rfl, fun _ => ⟨?_, ?_, ?_⟩, fun h => h, ?_⟩,
    after (.dsPush 0) (withPort [] (windowOpen 1 2)).accept, rfl⟩
  · decide +kernel
  · decide +kernel
  · decide +kernel
  · decide +kernel

theorem witness_EveryStepKeepsResponsesWellFormed :
    (after .swHumidity idleState).ResponsesOk ∧ ∃ t, step (after .swHumidity idleState) = .next t := by
  refine ⟨fun r h => ?_, _, (by rfl : _ = Host.Outcome.next ((after .swHumidity idleState).tickBy 1))⟩
  have : r = [6] := by simpa using (show r ∈ [[6#8]] from h)
  exact ⟨6, [], this, by decide, fun _ => rfl⟩

/-- A history with an address command and its bounds, the window still open. -/
theorem witness_NoOutOfRangeBytesReachTheBus :
    let e : List Event := [.spiCmd 0x2C true, .spiData [0, 0, 0, 1] true, .spiCmd 0x2A true]
    let s := { windowOpen 1 2 with obs := { events := e, responses := [] } }
    s.Inv ∧ s.cfg.AddressOpsDistinct ∧ s.BusSafe ∧ step s = .next (s.tickBy 1) := by
  refine ⟨⟨fx_ok, ⟨rfl, rfl, rfl, rfl, rfl, rfl⟩, fun _ => rfl, fun _ => ⟨?_, ?_, ?_⟩, fun h => h, ?_⟩, fx_opcodes,
    ⟨?_, ?_⟩, rfl⟩
  · decide +kernel
  · decide +kernel
  · decide +kernel
  · decide +kernel
  · refine ⟨fun _ => ⟨0, 1, by decide +kernel, by decide +kernel, by decide +kernel⟩, fun h => ?_, trivial⟩
    exact absurd h (by decide +kernel)
  · intro _ op ok older h
    have : op = 0x2C := by injection h with h1 _; injection h1 with h2 _; exact h2.symm
    subst this
    decide +kernel

theorem witness_NoStepWritesAParameter : ∃ t, step idleState = .next t := ⟨idleState.tickBy 1, rfl⟩

theorem witness_EveryCommandEndsInOneResponse : (Instr.dsPush 0).isCommand = true := rfl

theorem witness_UnitsAreIndependent :
    exec .swHumidity idleState = .next (after .swHumidity idleState) ∧ isSws .swHumidity = true
      ∧ exec .cbRead idleState = .next (after .cbRead idleState) ∧ isCbs .cbRead = true ∧ isSws .cbRead = false
      ∧ exec .dsOpRamwr (displayOn 1) = .next (after .dsOpRamwr (displayOn 1)) ∧ isSws .dsOpRamwr = false
      ∧ isCbs .dsOpRamwr = false := ⟨rfl, rfl, rfl, rfl, rfl, rfl, rfl, rfl⟩

/-- Each clause's change happens, and each clause's success. -/
theorem witness_FlagsAreWrittenAsTabled :
    (after .swMeasure (withLine (zeroFrame 27).levels idleState)).sws.valid ≠ idleState.sws.valid
      ∧ (after (.cbNew 0x77) (withI2c [ack [0x58], ack calibBytes, ack []] idleState)).cbs.ready ≠ idleState.cbs.ready
      ∧ (after .cbRead (withI2c [ack [0x7E, 0xED, 0], ack [0x65, 0x5A, 0xC0]] (sensorOn exampleCoeffs))).cbs.rvalid
        ≠ (sensorOn exampleCoeffs).cbs.rvalid
      ∧ (after .dsNew (withSpi (taken 28) idleState)).dsp.ready ≠ idleState.dsp.ready
      ∧ ((after (.dsPixel 0 0 0) (displayOn 6)).dsp.stream = true ∧ (displayOn 6).dsp.stream = false)
      ∧ ((after (.dsPush 0) (withSpi failed (windowOpen 0 1))).dsp.stream = false
        ∧ (withSpi failed (windowOpen 0 1)).dsp.stream = true)
      ∧ (after (.dsPush 0) (withSpi failed (windowOpen 0 1))).obs.responses = [[4]]
      ∧ (after .dsNew (withSpi (taken 28) idleState)).obs.responses = [[0]]
      ∧ (after (.dsPixel 0 0 0) (displayOn 6)).obs.responses = [[0]] := by decide +kernel

theorem witness_FlagsAreWrittenAsTabled_sensors :
    succeeded idleState (after .swMeasure (withLine (zeroFrame 27).levels idleState))
      ∧ succeeded idleState (after (.cbNew 0x77) (withI2c [ack [0x58], ack calibBytes, ack []] idleState))
      ∧ succeeded (sensorOn exampleCoeffs)
        (after .cbRead (withI2c [ack [0x7E, 0xED, 0], ack [0x65, 0x5A, 0xC0]] (sensorOn exampleCoeffs))) :=
  ⟨⟨[], by decide +kernel⟩, ⟨[], by decide +kernel⟩, ⟨[0, 0, 0x09, 0xCC, 0x01, 0x89, 0x2D, 0x41], by decide +kernel⟩⟩

theorem witness_ResetAnswersNotReady : needsDisplay (.dsPush 0) = true := rfl

/-- One tick before the interval is over, and at its end. -/
theorem witness_ClosedGateIsANoOp : gateShut (readAt 1) ∧ ¬ gateShut (readAt 2) :=
  ⟨⟨rfl, by decide +kernel⟩, fun h => absurd h.2 (by decide +kernel)⟩

theorem gate_open : ¬ gateShut idleState := fun h => absurd h.1 (by decide)

theorem witness_WellBehavedSensorIsDecoded :
    (zeroFrame 42).wellBehaved fx = true ∧ ¬ gateShut (withLine (zeroFrame 42).levels idleState)
      ∧ (withLine (zeroFrame 42).levels idleState).env.line = (zeroFrame 42).levels ++ [] :=
  ⟨by decide +kernel, gate_open, (List.append_nil _).symm⟩

theorem witness_AbsentSensorTimesOut :
    let s := withLine (List.replicate 100 true) idleState
    ¬ gateShut s ∧ s.env.line = List.replicate s.cfg.swNAck true ++ [] := ⟨gate_open, by decide +kernel⟩

/-- The default instance with a concrete interval. -/
def defaults : State := State.resetWith { Config.default with swMinInterval := 0 }

theorem witness_MeasurementEndsInTime :
    defaults.cfg.Ok ∧ ¬ gateShut defaults ∧ defaults.cfg = { Config.default with swMinInterval := defaults.cfg.swMinInterval }
      ∧ (after .swMeasure (withLine (zeroFrame 27).levels defaults)).obs.responses = [0] :: defaults.obs.responses :=
  ⟨by constructor <;> decide +kernel, fun h => absurd h.1 (by decide), rfl, by decide +kernel⟩

theorem witness_FailedMeasurementKeepsTheReading :
    let s := withLine (List.replicate 100 true) (readAt 2)
    (after .swMeasure s).obs.responses ≠ [0] :: s.obs.responses := by decide +kernel

theorem witness_SingleByteCorruptionIsCaught :
    sumMatches 0x28 0x00 0x19 0x00 0x41 ∧ (#v[0x28, 0x00, 0x19, 0x00, 0x41] : Vector Byte 5).getD 4 0 ≠ 0x40
      ∧ (#v[0x28, 0x00, 0x19, 0x00, 0x41] : Vector Byte 5).getD 0 0 ≠ 0x29 :=
  ⟨by unfold sumMatches; decide, by decide, by decide⟩

theorem witness_TickMachineIsTheMeasurement : idleState.cfg.Ok ∧ ¬ gateShut idleState := ⟨fx_ok, gate_open⟩

theorem witness_AccessorsReturnTheLastReading : (readAt 0).sws.valid = true ∧ idleState.sws.valid = false := ⟨rfl, rfl⟩

theorem witness_FrameBitsPackMostSignificantFirst : 0 < 40 ∧ 39 < 40 := by decide

/-- Both clauses: the device at the given address, and at the alternate after another identity byte. -/
theorem witness_ConstructionFindsTheDevice :
    (device 0x76).regs.getD fx.cbRegId.toNat 0 = fx.cbIdExpect ∧ (device 0x76).addr = 0x76
      ∧ noMatch fx (ack [0x60]) ∧ (device 0x77).addr = alternate fx 0x76 :=
  ⟨by decide +kernel, rfl, .inr ⟨0x60, rfl, by decide +kernel⟩, by decide +kernel⟩

theorem witness_ConstructionWithoutAMatchFails : noMatch fx nack ∧ noMatch fx (ack [0x60]) :=
  ⟨.inl rfl, .inr ⟨0x60, rfl, by decide +kernel⟩⟩

theorem witness_ConstructionOnABrokenBusFails :
    probesFind fx 0x76 [ack [0x58]] 0x76 [.i2cRead 0x76 0xD0 1 (some [0x58])]
      ∧ probesFind fx 0x76 [nack, ack [0x58]] 0x77 [.i2cRead 0x77 0xD0 1 (some [0x58]), .i2cRead 0x76 0xD0 1 none]
      ∧ nack.ack = false ∧ (ack calibBytes).ack = true ∧ (ack calibBytes).bytes.length = 24
      ∧ (withI2c [nack, ack [0x58], ack calibBytes, nack] idleState).env.i2c = [nack, ack [0x58]] ++ [ack calibBytes, nack] :=
  ⟨.inl ⟨0, by decide +kernel, rfl, by decide +kernel⟩,
    .inr ⟨nack, 0, .inl rfl, by decide +kernel, by decide +kernel, by decide +kernel⟩, rfl, rfl, by decide +kernel, rfl⟩

theorem witness_OnlyConstructionWritesCoefficients : (∀ addr, Instr.cbRead ≠ .cbNew addr)
    ∧ exec .cbRead idleState = .next (after .cbRead idleState) := ⟨nofun, rfl⟩

theorem witness_ReadCompensatesBothBursts :
    (sensorOn exampleCoeffs).cbs.ready = true
      ∧ compP (rawValue 0x65 0x5A 0xC0) (compT (rawValue 0x7E 0xED 0x00) exampleCoeffs).1 exampleCoeffs = some 25767233 := by
  decide +kernel

/-- V-CB5: the fourth clause; the others assume answers only. -/
theorem witness_FailedReadsKeepTheReading :
    idleState.cbs.ready = false ∧ (sensorOn exampleCoeffs).cbs.ready = true ∧ nack.ack = false
      ∧ (ack [0x7E, 0xED, 0x00]).ack = true
      ∧ compP (rawValue 0x65 0x5A 0xC0) (compT (rawValue 0x7E 0xED 0x00) (sensorOn { exampleCoeffs with p1 := 0 }).cbs.coef).1
        (sensorOn { exampleCoeffs with p1 := 0 }).cbs.coef = none := by decide +kernel

/-- The third clause: a coefficient file whose `CB_P1` is 0. -/
theorem witness_PressureIsTheWrappedFormula : ({ exampleCoeffs with p1 := 0 } : Coeffs).p1 = 0 := rfl

theorem witness_AltitudeIsWithinTolerance : (1 : Word) ≠ 0 ∧ 1 ≤ fx.cbAltTol := by decide +kernel

/-- A real altitude that is an integer: equal pressures. -/
theorem witness_AltitudeIsWithinTolerance_exact : ∃ A : ℤ, (A : ℝ) = realAltitude 1 1 := ⟨0, by simp [realAltitude]⟩

theorem witness_AltitudeAnswers : (1 : Word) ≠ 0 ∧ (0 : Word) = 0 := by decide

theorem witness_DisplayNeedsConstruction : needsDisplay (.dsPush 0) = true ∧ idleState.dsp.ready = false := ⟨rfl, rfl⟩

theorem witness_InitSequenceRuns :
    allOk (taken 28) ∧ (taken 28).length = (fx.dsInitSeq.toList.map entryTransfers).sum
      ∧ (withSpi (taken 28) idleState).env.spi = taken 28 ++ [] := ⟨allOk_taken 28, by decide +kernel, rfl⟩

theorem witness_OperationsAreTheirWireCommands :
    let s := (withSpi (taken 28) idleState).standingAt (.init 0)
    let w := (withSpi (taken 5) idleState).standingAt (.caset 0 0 239 239)
    (s.busy = true ∧ s.sws.seq = .idle ∧ s.env.port = [] ∧ s.dsp.seq = .init 0)
      ∧ w.busy = true ∧ w.sws.seq = .idle ∧ w.env.port = [] ∧ w.dsp.seq = .caset 0 0 239 239 :=
  ⟨⟨rfl, rfl, rfl, rfl⟩, rfl, rfl, rfl, rfl⟩

/-- Each clause at the edge: one past the panel, and a full window. -/
theorem witness_OutOfRangeRequestsAreRefused :
    (displayOn 0).dsp.ready = true ∧ ¬ ((240 : Half).toNat < fx.panelW) ∧ fx.panelH ≤ (240 : Half).toNat
      ∧ (windowOpen 0 0).dsp.remain = 0 ∧ (displayOn 0).dsp.stream = false := by decide +kernel

theorem witness_WindowIsSet :
    (displayOn 5).dsp.ready = true ∧ (239 : Half).toNat < fx.panelW ∧ (239 : Half).toNat < fx.panelH ∧ allOk (taken 5)
      ∧ (taken 5).length = 5 ∧ (displayOn 5).env.spi = taken 5 ++ [] ∧ fx.Ok :=
  ⟨rfl, by decide +kernel, by decide +kernel, allOk_taken 5, rfl, rfl, fx_ok⟩

theorem witness_PushStreamsOnePixel :
    (windowOpen 1 1).dsp.ready = true ∧ (windowOpen 1 1).dsp.stream = true ∧ (windowOpen 1 1).dsp.remain ≠ 0
      ∧ (windowOpen 1 1).env.spi = [⟨0, true⟩] := by decide +kernel

theorem witness_PixelIsWritten :
    (displayOn 6).dsp.ready = true ∧ (239 : Half).toNat < fx.panelW ∧ (239 : Half).toNat < fx.panelH ∧ allOk (taken 6)
      ∧ (taken 6).length = 6 ∧ (displayOn 6).env.spi = taken 6 ++ [] :=
  ⟨rfl, by decide +kernel, by decide +kernel, allOk_taken 6, rfl, rfl⟩

/-- A rectangle clamped to the last pixel of the panel. -/
theorem witness_FillStreamsChunks :
    fx.Ok ∧ (displayOn 6).dsp.ready = true ∧ rectVisible fx 239 239 0xFFFF 2 ∧ allOk (taken 6)
      ∧ (taken 6).length = 5 + (fillEvents (clampedArea fx 239 239 0xFFFF 2) fx.dsChunk 7).length
      ∧ (displayOn 6).env.spi = taken 6 ++ [] :=
  ⟨fx_ok, rfl, ⟨by decide, by decide, by decide +kernel, by decide +kernel⟩, allOk_taken 6, by decide +kernel, rfl⟩

theorem witness_FillOfNothingSendsNothing : (displayOn 0).dsp.ready = true ∧ ¬ rectVisible fx 0 240 1 1 :=
  ⟨rfl, fun h => absurd h.2.2.2 (by decide +kernel)⟩

theorem witness_TextDrawsItsPixels :
    fx.Ok ∧ (displayOn 168).dsp.ready = true
      ∧ (∀ p ∈ textCalls fx 232 7 false 0 232 0 [0x41], callInside fx p) ∧ allOk (taken 168)
      ∧ (taken 168).length = 6 * (textCalls fx 232 7 false 0 232 0 [0x41]).length := by
  refine ⟨fx_ok, rfl, ?_, allOk_taken 168, by decide +kernel⟩
  unfold callInside
  decide +kernel

/-- A glyph at the bottom edge: its first three rows' calls are on the panel, then one is not. -/
theorem witness_TextStopsAtTheFirstPixelOutside :
    let before : List Call := [(2, 238, 7), (3, 238, 7), (1, 239, 7), (2, 239, 7), (3, 239, 7), (4, 239, 7)]
    textCalls fx 0 7 false 0 0 238 [0x41]
        = before ++ (0, 240, 7) :: (textCalls fx 0 7 false 0 0 238 [0x41]).drop 7
      ∧ (∀ q ∈ before, callInside fx q) ∧ ¬ callInside fx (0, 240, 7) ∧ allOk (taken 36)
      ∧ (taken 36).length = 6 * before.length := by
  refine ⟨by decide +kernel, ?_, fun h => absurd h.2 (by decide +kernel), allOk_taken 36, by decide⟩
  unfold callInside
  decide +kernel

theorem witness_FailedTransferDropsTheStream :
    isSws .dsNew = false ∧ isCbs .dsNew = false
      ∧ (after .dsNew (withSpi failed idleState)).obs.responses = [4] :: idleState.obs.responses
      ∧ (after (.dsPush 0) (withSpi failed (windowOpen 0 1))).obs.responses = [[4]] := by decide +kernel

theorem witness_FailedTrafficIsAPrefix :
    isSws (.dsPixel 0 0 0) = false ∧ isCbs (.dsPixel 0 0 0) = false ∧ (Instr.dsPixel 0 0 0).isCommand = true
      ∧ (after (.dsPixel 0 0 0) (displayOn 6)).obs.responses = [0] :: (displayOn 6).obs.responses
      ∧ (after (.dsPixel 0 0 0) (displayOn 6)).env.spi = [] ∧ 5 < (taken 6).length := by decide +kernel

theorem witness_InitCommandsAreSent :
    (Instr.dsOpDispon, (15 : Fin 16)) ∈ initCommands ∧ (Instr.dsOpMadctl, (2 : Fin 16)) ∈ initCommands
      ∧ (taken 1).length = entryTransfers fx.dsInitSeq[(15 : Fin 16)]
      ∧ (taken 2).length = entryTransfers fx.dsInitSeq[(2 : Fin 16)] ∧ allOk (taken 2) ∧ allOk (taken 1)
      ∧ (displayOn 2).env.spi = taken 2 ++ [] :=
  ⟨by decide, by decide, by decide +kernel, by decide +kernel, allOk_taken 2, allOk_taken 1, rfl⟩

theorem witness_AddressCommandsAreSent : (displayOn 2).env.spi = [⟨0, true⟩, ⟨0, true⟩]
    ∧ (displayOn 1).env.spi = [⟨0, true⟩] := by decide

theorem witness_FillPaintsTheRectangle :
    fx.Ok ∧ fx.AddressOpsDistinct ∧ (displayOn 6).dsp.ready = true
      ∧ (after (.dsFillRect 239 239 2 2 7) (displayOn 6)).obs.responses = [0] :: (displayOn 6).obs.responses :=
  ⟨fx_ok, fx_opcodes, rfl, by decide +kernel⟩

theorem witness_PushesLandInRowOrder :
    let m := after (.dsSetWindow 0 0 1 0) (displayOn 7)
    m.obs.responses = [0] :: (displayOn 7).obs.responses ∧ [1, 2].length ≤ windowArea 0 0 1 0
      ∧ pushAll [1, 2] m = some (after (.dsPush 2) (after (.dsPush 1) m))
      ∧ (after (.dsPush 2) (after (.dsPush 1) m)).obs.responses = List.replicate 2 [0] ++ m.obs.responses :=
  ⟨by decide +kernel, by decide +kernel, rfl, by decide +kernel⟩

/-- Inside the operations, at their first labels. -/
theorem witness_CommandsAreTheirStatements :
    let c := { idleState with busy := true, cbs := { idleState.cbs with seq := .entry 0x76 } }
    let r := { idleState with busy := true, cbs := { idleState.cbs with seq := .check } }
    let f := (displayOn 6).standingAt (.clamp 239 239 2 2 7)
    (c.busy = true ∧ c.sws.seq = .idle ∧ c.env.port = [] ∧ c.dsp.seq = .idle ∧ c.cbs.seq = .entry 0x76)
      ∧ (r.busy = true ∧ r.dsp.seq = .idle ∧ r.cbs.seq = .check)
      ∧ (idleState.standingAt .entry).dsp.seq = .entry
      ∧ f.busy = true ∧ f.cfg.Ok ∧ f.dsp.ready = true ∧ f.dsp.seq = .clamp 239 239 2 2 7 :=
  ⟨⟨rfl, rfl, rfl, rfl, rfl⟩, ⟨rfl, rfl, rfl⟩, rfl, rfl, fx_ok, rfl, rfl⟩

/-- A glyph cut off by a failed transfer. -/
theorem witness_GlyphTouchesOnlyItsCell_failing :
    (after (.dsDrawText 0 0 7 false 0 [0x41]) (withSpi (taken 8 ++ failed) (displayOn 0))).obs.responses = [[4]] := by
  decide +kernel

theorem witness_GlyphTouchesOnlyItsCell :
    (after (.dsDrawText 0 0 7 false 0 [126]) (displayOn 6)).obs.responses = [0] :: (displayOn 6).obs.responses
      ∧ 32 ≤ (126 : Byte).toNat ∧ (126 : Byte).toNat ≤ 126 := by decide +kernel

end Sys2Proof.Tests
end

section
/-! What each whole operation can touch, unit by unit: `SwsOnly`, `CbsOnly`, `DspOnly` along every operation's statements, then
one frame of `exec` for each unit. -/

namespace Sys2Proof.Machine

open Sys2Proof.Claims

/-! ## The end of an operation -/

theorem Run.finish_ends {P : State → Prop} {u : BlockUnit} {payload : State → List Byte} {r : Run} (hr : r.Ends P)
    (hn : ∀ p s, P s → P (s.respond u p)) (hf : ∀ e s, P s → P (s.fail u e)) : P (r.finish u payload) :=
  Run.goOn_ends hr (fun s => hn (payload s) s) hf

/-! ## SWS -/

/-- `t` differs from `s` in nothing that SWS does not own: only its registers, the clock, the line's levels, the history and `BUSY`
(`00_scope.md` R2). -/
structure SwsOnly (s t : State) : Prop where
  cfg  : t.cfg = s.cfg
  cbs  : t.cbs = s.cbs
  dsp  : t.dsp = s.dsp
  port : t.env.port = s.env.port
  i2c  : t.env.i2c = s.env.i2c
  spi  : t.env.spi = s.env.spi

theorem SwsOnly.rfl {s : State} : SwsOnly s s := ⟨Eq.refl _, Eq.refl _, Eq.refl _, Eq.refl _, Eq.refl _, Eq.refl _⟩

theorem SwsOnly.trans {s t u : State} (h : SwsOnly s t) (k : SwsOnly t u) : SwsOnly s u :=
  ⟨k.cfg.trans h.cfg, k.cbs.trans h.cbs, k.dsp.trans h.dsp, k.port.trans h.port, k.i2c.trans h.i2c, k.spi.trans h.spi⟩

theorem Sampled.swsOnly {l : List Bool} {s t : State} (h : Sampled l s t) : SwsOnly s t :=
  ⟨h.cfg, h.cbs, h.dsp, h.port, h.i2c, h.spi⟩

theorem swsOnly_finish {s : State} {payload : State → List Byte} {r : Run} (h : r.Ends (SwsOnly s)) :
    SwsOnly s (r.finish .sws payload) :=
  Run.finish_ends h (fun _ _ k => k.trans ⟨rfl, rfl, rfl, rfl, rfl, rfl⟩) fun _ _ k => k.trans ⟨rfl, rfl, rfl, rfl, rfl, rfl⟩

theorem swsOnly_enter {s t : State} (q : SwSeq) (h : SwsOnly s t) : SwsOnly s ((t.swAt q).swCount 0) :=
  h.trans ⟨rfl, rfl, rfl, rfl, rfl, rfl⟩

theorem swsOnly_awaitLevel {s t : State} (q : SwSeq) (level : Bool) (bound : Nat) (h : SwsOnly s t) :
    (awaitLevel q level bound t).Ends (SwsOnly s) := by
  obtain ⟨_, _, hw, _⟩ := waitLevel_cases level bound ((t.swAt q).swCount 0)
  have hr : SwsOnly s (waitLevel level bound ((t.swAt q).swCount 0)).2 :=
    (swsOnly_enter q h).trans hw.swsOnly
  unfold awaitLevel
  dsimp only
  split <;> exact hr

theorem swsOnly_highPhase {s t : State} (h : SwsOnly s t) : (highPhase t).Ends (SwsOnly s) := by
  obtain ⟨_, _, hm, _⟩ := measureHigh_cases t.cfg.swNBit ((t.swAt .high).swCount 0)
  have hr : SwsOnly s (measureHigh t.cfg.swNBit ((t.swAt .high).swCount 0)).2 :=
    (swsOnly_enter .high h).trans hm.swsOnly
  unfold highPhase
  dsimp only
  split
  · exact hr.trans ⟨rfl, rfl, rfl, rfl, rfl, rfl⟩
  · exact hr

theorem swsOnly_readBit {s t : State} (h : SwsOnly s t) : (readBit t).Ends (SwsOnly s) :=
  Run.ends_andThen (Run.ends_andThen (swsOnly_awaitLevel _ _ _ h) fun _ => swsOnly_awaitLevel _ _ _) fun _ => swsOnly_highPhase

theorem swsOnly_readBits {s t : State} (n : Nat) (h : SwsOnly s t) : (readBits n t).Ends (SwsOnly s) := by
  induction n generalizing t with
  | zero => exact h
  | succ n ih => exact Run.ends_andThen (swsOnly_readBit h) fun _ => ih

theorem swsOnly_checkAndCommit {s t : State} (h : SwsOnly s t) : (checkAndCommit t).Ends (SwsOnly s) := by
  unfold checkAndCommit
  split
  · exact h.trans ⟨rfl, rfl, rfl, rfl, rfl, rfl⟩
  · exact h

theorem swsOnly_handshake {s t : State} (h : SwsOnly s t) : (handshake t).Ends (SwsOnly s) := by
  have hp : SwsOnly s (startPulse t) := h.trans ⟨rfl, rfl, rfl, rfl, rfl, rfl⟩
  refine Run.ends_andThen (Run.ends_andThen (Run.ends_andThen ?_ ?_) ?_) ?_
  · exact swsOnly_awaitLevel _ _ _ hp
  · exact fun _ => swsOnly_awaitLevel _ _ _
  · exact fun _ k => swsOnly_readBits _ (k.trans ⟨rfl, rfl, rfl, rfl, rfl, rfl⟩)
  · exact fun _ => swsOnly_checkAndCommit

theorem swsOnly_swMeasure (s : State) : (swMeasure s).Ends (SwsOnly s) := by
  unfold swMeasure
  split
  · exact SwsOnly.rfl
  · exact swsOnly_handshake .rfl

theorem swsOnly_needReading (s : State) : (needReading s).Ends (SwsOnly s) := by
  unfold needReading
  split <;> exact SwsOnly.rfl

/-- An instruction of SWS has a next state, and touches nothing that is not its unit's. -/
theorem exec_swsOnly {i : Instr} (hi : isSws i = true) (s : State) : ∃ t, exec i s = .next t ∧ SwsOnly s t := by
  cases i with
  | swMeasure => exact ⟨_, rfl, swsOnly_finish (swsOnly_swMeasure s)⟩
  | swTemperature | swHumidity => exact ⟨_, rfl, swsOnly_finish (swsOnly_needReading s)⟩
  | _ => exact nomatch hi

/-! ## CBS -/

theorem cbsOnly_finish {s : State} {payload : State → List Byte} {r : Run} (h : r.Ends (CbsOnly s)) :
    CbsOnly s (r.finish .cbs payload) :=
  Run.finish_ends h (fun p _ => cbsOnly_respond p) fun e _ => cbsOnly_fail e

theorem cbsOnly_build {s t : State} (found : BitVec 7) (h : CbsOnly s t) : (cbBuild found t).Ends (CbsOnly s) :=
  Run.ends_andThen (Run.ends_andThen (cbsOnly_calib found h) fun _ => cbsOnly_config found) fun _ k =>
    k.trans ⟨rfl, .inl rfl, rfl, rfl, rfl, rfl⟩

theorem cbsOnly_cbNew (addr : BitVec 7) (s : State) : (cbNew addr s).Ends (CbsOnly s) := by
  have hentry : CbsOnly s (cbEntry addr s) := ⟨rfl, .inl rfl, rfl, rfl, rfl, rfl⟩
  have hfirst := cbsOnly_probe addr false hentry
  have hsecond := cbsOnly_probe addr true hfirst
  unfold cbNew
  dsimp only
  split
  · exact cbsOnly_build _ hfirst
  · split
    · exact cbsOnly_build _ hsecond
    · exact hsecond

theorem cbsOnly_compP {s t : State} (h : CbsOnly s t) : (cbCompP t).Ends (CbsOnly s) := by
  unfold cbCompP
  split
  · exact cbsOnly_at _ h
  · exact h.trans ⟨rfl, .inl rfl, rfl, rfl, rfl, rfl⟩

theorem cbsOnly_cbRead (s : State) : (cbRead s).Ends (CbsOnly s) := by
  refine Run.ends_andThen (Run.ends_andThen (Run.ends_andThen (cbsOnly_check .rfl) ?_) ?_) ?_
  · exact fun _ => cbsOnly_readT
  · exact fun _ => cbsOnly_readP
  · exact fun _ k => cbsOnly_compP (k.trans ⟨rfl, .inl rfl, rfl, rfl, rfl, rfl⟩)

theorem cbsOnly_cbAltitude (p0 : Word) (s : State) : (cbAltitude p0 s).Ends (CbsOnly s) := by
  unfold cbAltitude
  split <;> exact CbsOnly.rfl

/-- An instruction of CBS has a next state, and touches nothing that is not its unit's but the line's release. -/
theorem exec_cbsOnly {i : Instr} (hi : isCbs i = true) (s : State) : ∃ t, exec i s = .next t ∧ CbsOnly s t := by
  cases i with
  | cbNew addr => exact ⟨_, rfl, cbsOnly_finish (cbsOnly_cbNew addr s)⟩
  | cbRead => exact ⟨_, rfl, cbsOnly_finish (cbsOnly_cbRead s)⟩
  | cbAltitude p p0 => exact ⟨_, rfl, cbsOnly_finish (cbsOnly_cbAltitude p0 s)⟩
  | _ => exact nomatch hi

/-! ## DSP -/

theorem dspOnly_finish {s : State} {payload : State → List Byte} {r : Run} (h : r.Ends (DspOnly s)) :
    DspOnly s (r.finish .dsp payload) :=
  Run.finish_ends h (fun _ _ k => k.trans ⟨rfl, .inl rfl, rfl, rfl, rfl, rfl⟩) fun e _ => dspOnly_fail e

theorem dspOnly_statement {s : State} {r : Run} (h : r.Ends (DspOnly s)) : DspOnly s r.statement :=
  Run.goOn_ends h (fun _ k => k) fun e _ => dspOnly_fail e

theorem dspOnly_dsCmd {s t : State} (b : Byte) (h : DspOnly s t) : (dsCmd b t).Ends (DspOnly s) :=
  dspOnly_transfer h (dsCmd_cases b t)

theorem dspOnly_dsData {s t : State} (bytes : List Byte) (h : DspOnly s t) : (dsData bytes t).Ends (DspOnly s) :=
  dspOnly_transfer h (dsData_cases bytes t)

/-! ### Wire commands -/

theorem dspOnly_sendInit {s t : State} (k : Fin 16) (h : DspOnly s t) : (sendInit k t).Ends (DspOnly s) := by
  refine Run.ends_andThen (Run.ends_andThen (dspOnly_dsCmd _ h) fun m hm => ?_) fun _ hm =>
    hm.trans ⟨rfl, .inl rfl, rfl, rfl, rfl, rfl⟩
  split
  · exact hm
  · exact dspOnly_dsData _ hm

theorem dspOnly_sendCaset {s t : State} (x0 x1 : Half) (h : DspOnly s t) : (sendCaset x0 x1 t).Ends (DspOnly s) :=
  Run.ends_andThen (dspOnly_dsCmd _ h) fun _ => dspOnly_dsData _

theorem dspOnly_sendRaset {s t : State} (y0 y1 : Half) (h : DspOnly s t) : (sendRaset y0 y1 t).Ends (DspOnly s) :=
  Run.ends_andThen (dspOnly_dsCmd _ h) fun _ => dspOnly_dsData _

/-! ### DS_NEW -/

theorem dspOnly_initLoop {s t : State} (ks : List (Fin 16)) (h : DspOnly s t) : (initLoop ks t).Ends (DspOnly s) := by
  induction ks generalizing t with
  | nil => exact h
  | cons k ks ih => exact Run.ends_andThen (dspOnly_sendInit k (dspOnly_at _ h)) fun _ => ih

theorem dspOnly_dsNew (s : State) : (dsNew s).Ends (DspOnly s) := by
  have hreset : DspOnly s (hardReset (dsEntry s)) := ⟨rfl, .inl rfl, rfl, rfl, rfl, rfl⟩
  refine Run.ends_andThen (dspOnly_initLoop _ hreset) fun m hm => ?_
  exact (hm.trans (dspOnly_backlight m)).trans ⟨rfl, .inl rfl, rfl, rfl, rfl, rfl⟩

/-! ### The operations that need the display -/

/-- A display operation stays inside DSP if what follows its first statement does. -/
theorem dspOnly_needDisplay_andThen {s : State} {f : State → Run} (hf : (f s).Ends (DspOnly s)) :
    ((needDisplay s).andThen f).Ends (DspOnly s) := by
  unfold needDisplay
  split
  · exact hf
  · exact DspOnly.rfl

theorem dspOnly_dsSetWindow (x0 y0 x1 y1 : Half) (s : State) : (dsSetWindow x0 y0 x1 y1 s).Ends (DspOnly s) := by
  refine dspOnly_needDisplay_andThen ?_
  split
  · exact dspOnly_setWindow _ _ _ _ .rfl
  · exact DspOnly.rfl

theorem dspOnly_dsPush (color : Half) (s : State) : (dsPush color s).Ends (DspOnly s) := by
  refine dspOnly_needDisplay_andThen ?_
  split
  · exact Run.ends_andThen (dspOnly_dsData _ .rfl) fun _ k => k.trans ⟨rfl, .inl rfl, rfl, rfl, rfl, rfl⟩
  · exact DspOnly.rfl

theorem dspOnly_pixel {s t : State} (px py : Nat) (c : Half) (h : DspOnly s t) : (pixel px py c t).Ends (DspOnly s) := by
  unfold pixel
  dsimp only
  split
  · exact Run.ends_andThen (Run.ends_andThen (dspOnly_setWindow _ _ _ _ h) fun _ => dspOnly_dsData _) fun _ k =>
      k.trans ⟨rfl, .inl rfl, rfl, rfl, rfl, rfl⟩
  · exact h

theorem dspOnly_dsPixel (x y color : Half) (s : State) : (dsPixel x y color s).Ends (DspOnly s) :=
  dspOnly_needDisplay_andThen (dspOnly_pixel _ _ _ .rfl)

/-! ### The fill engine -/

theorem dspOnly_streamChunks {s t : State} (m n : Nat) (h : DspOnly s t) : (streamChunks m n t).Ends (DspOnly s) := by
  induction m generalizing n t with
  | zero => exact h
  | succ m ih => exact Run.ends_andThen (dspOnly_streamChunk n h) fun _ => ih _

theorem dspOnly_fillClamped {s t : State} (x y : Half) (w h : Nat) (color : Half) (ht : DspOnly s t) :
    (fillClamped x y w h color t).Ends (DspOnly s) :=
  Run.ends_andThen (dspOnly_setWindow _ _ _ _ (dspOnly_at _ ht)) fun _ k =>
    dspOnly_streamChunks _ _ (k.trans ⟨rfl, .inl rfl, rfl, rfl, rfl, rfl⟩)

theorem dspOnly_dsFillRect (x y w h color : Half) (s : State) : (dsFillRect x y w h color s).Ends (DspOnly s) := by
  refine dspOnly_needDisplay_andThen ?_
  split
  · exact dspOnly_at _ .rfl
  · exact dspOnly_fillClamped _ _ _ _ _ .rfl

/-! ### The glyph rasterizer -/

theorem dspOnly_glyphPixel {s t : State} (g : Nat) (color : Half) (hasBg : Bool) (bg : Half) (row col : Nat)
    (h : DspOnly s t) : (glyphPixel g color hasBg bg row col t).Ends (DspOnly s) := by
  have hscan : DspOnly s (scanAt row col t) := h.trans ⟨rfl, .inl rfl, rfl, rfl, rfl, rfl⟩
  unfold glyphPixel
  dsimp only
  split
  · exact dspOnly_pixel _ _ _ hscan
  · split
    · exact dspOnly_pixel _ _ _ hscan
    · exact hscan

theorem dspOnly_drawGlyph {s t : State} (g : Nat) (color : Half) (hasBg : Bool) (bg : Half) (ps : List (Nat × Nat))
    (h : DspOnly s t) : (drawGlyph g color hasBg bg ps t).Ends (DspOnly s) := by
  induction ps generalizing t with
  | nil => exact h
  | cons p ps ih => exact Run.ends_andThen (dspOnly_glyphPixel _ _ _ _ _ _ h) fun _ => ih

theorem dspOnly_advanceCursor {s t : State} (h : DspOnly s t) : DspOnly s (advanceCursor t) :=
  h.trans ⟨by simp, .inl (by simp), by simp, by simp, by simp, by simp⟩

theorem dspOnly_drawChar {s t : State} (color : Half) (hasBg : Bool) (bg : Half) (ch : Byte) (h : DspOnly s t) :
    (drawChar color hasBg bg ch t).Ends (DspOnly s) := by
  unfold drawChar
  split
  · exact Run.ends_andThen (dspOnly_drawGlyph _ _ _ _ _ h) fun _ => dspOnly_advanceCursor
  · exact h

theorem dspOnly_drawChars {s t : State} (color : Half) (hasBg : Bool) (bg : Half) (text : List Byte) (h : DspOnly s t) :
    (drawChars color hasBg bg text t).Ends (DspOnly s) := by
  induction text generalizing t with
  | nil => exact h
  | cons ch rest ih => exact Run.ends_andThen (dspOnly_drawChar _ _ _ ch h) fun _ => ih

theorem dspOnly_dsDrawText (x y color : Half) (hasBg : Bool) (bg : Half) (text : List Byte) (s : State) :
    (dsDrawText x y color hasBg bg text s).Ends (DspOnly s) :=
  dspOnly_needDisplay_andThen (dspOnly_drawChars _ _ _ _ ⟨rfl, .inl rfl, rfl, rfl, rfl, rfl⟩)

/-- A display command or wire command has a next state, and touches nothing that is not DSP's but the line's release. -/
theorem exec_dspOnly {i : Instr} (hs : isSws i = false) (hc : isCbs i = false) (s : State) :
    ∃ t, exec i s = .next t ∧ DspOnly s t := by
  cases i with
  | swMeasure | swTemperature | swHumidity => exact nomatch hs
  | cbNew | cbRead | cbAltitude => exact nomatch hc
  | dsNew => exact ⟨_, rfl, dspOnly_finish (dspOnly_dsNew s)⟩
  | dsSetWindow => exact ⟨_, rfl, dspOnly_finish (dspOnly_dsSetWindow _ _ _ _ s)⟩
  | dsFillRect => exact ⟨_, rfl, dspOnly_finish (dspOnly_dsFillRect _ _ _ _ _ s)⟩
  | dsPixel => exact ⟨_, rfl, dspOnly_finish (dspOnly_dsPixel _ _ _ s)⟩
  | dsDrawText => exact ⟨_, rfl, dspOnly_finish (dspOnly_dsDrawText _ _ _ _ _ _ s)⟩
  | dsPush => exact ⟨_, rfl, dspOnly_finish (dspOnly_dsPush _ s)⟩
  | dsOpSwreset | dsOpSlpout | dsOpMadctl | dsOpColmod | dsOpPorctrl | dsOpGctrl | dsOpVcoms | dsOpLcmctrl
  | dsOpPwr1 | dsOpPwr2 | dsOpPwr3 | dsOpFrctrl | dsOpPvgam | dsOpNvgam | dsOpInvon | dsOpDispon =>
    exact ⟨_, rfl, dspOnly_statement (dspOnly_sendInit _ .rfl)⟩
  | dsOpCaset => exact ⟨_, rfl, dspOnly_statement (dspOnly_sendCaset _ _ .rfl)⟩
  | dsOpRaset => exact ⟨_, rfl, dspOnly_statement (dspOnly_sendRaset _ _ .rfl)⟩
  | dsOpRamwr => exact ⟨_, rfl, dspOnly_statement (dspOnly_dsCmd _ .rfl)⟩

/-! ## The whole instruction set -/

theorem isCbs_eq_false_of_isSws {i : Instr} (hi : isSws i = true) : isCbs i = false := by
  cases i with
  | swMeasure | swTemperature | swHumidity => rfl
  | _ => exact nomatch hi

/-- Every instruction belongs to one unit, and touches nothing that is not that unit's. -/
theorem exec_unit_cases {i : Instr} {s t : State} (h : exec i s = .next t) :
    (isSws i = true ∧ isCbs i = false ∧ SwsOnly s t) ∨ (isSws i = false ∧ isCbs i = true ∧ CbsOnly s t)
      ∨ (isSws i = false ∧ isCbs i = false ∧ DspOnly s t) := by
  cases hs : isSws i with
  | true =>
    obtain ⟨_, he, hu⟩ := exec_swsOnly hs s
    cases h.symm.trans he
    exact .inl ⟨rfl, isCbs_eq_false_of_isSws hs, hu⟩
  | false =>
    cases hc : isCbs i with
    | true =>
      obtain ⟨_, he, hu⟩ := exec_cbsOnly hc s
      cases h.symm.trans he
      exact .inr (.inl ⟨rfl, rfl, hu⟩)
    | false =>
      obtain ⟨_, he, hu⟩ := exec_dspOnly hs hc s
      cases h.symm.trans he
      exact .inr (.inr ⟨rfl, rfl, hu⟩)

end Sys2Proof.Machine
end

section
/-! The statements of `00_scope.md`. -/

namespace Sys2Proof.Proofs

open Sys2Proof.Machine

/-- Settles O18: every instruction belongs to one unit, and each unit's frame gives its clauses. -/
theorem unitsAreIndependent : Obligations.UnitsAreIndependent := by
  intro i s t h
  rcases exec_unit_cases h with ⟨hs, hc, k⟩ | ⟨hs, hc, k⟩ | ⟨hs, hc, k⟩ <;> simp only [hs, hc]
  · exact ⟨fun _ => ⟨k.cbs, k.dsp, k.i2c, k.spi⟩, nofun, nofun, nofun, k.cfg, k.port⟩
  · exact ⟨nofun, fun _ => ⟨k.sws, k.line⟩, fun _ => ⟨k.dsp, k.spi⟩, fun _ => nofun, k.cfg, k.port⟩
  · exact ⟨nofun, fun _ => ⟨k.sws, k.line⟩, nofun, fun _ _ => ⟨k.cbs, k.i2c⟩, k.cfg, k.port⟩

end Sys2Proof.Proofs
end

section
/-! What a step is at a state inside an operation, and that no step writes a parameter. -/

namespace Sys2Proof.Machine

open Sys2Proof.Claims

/-! ## The tick machine of SWS -/

theorem swsOnly_fail {s t : State} (e : Status) (h : SwsOnly s t) : SwsOnly s (t.fail .sws e) :=
  h.trans ⟨rfl, rfl, rfl, rfl, rfl, rfl⟩

theorem swsOnly_swEnter {s t : State} (q : SwSeq) (h : SwsOnly s t) : SwsOnly s (swEnter q t) :=
  swsOnly_enter q h

theorem swsOnly_lineDrive {s t : State} (v : Bool) (h : SwsOnly s t) : SwsOnly s (lineDrive v t) :=
  h.trans ⟨rfl, rfl, rfl, rfl, rfl, rfl⟩

theorem swsOnly_log {s t : State} (e : Event) (h : SwsOnly s t) : SwsOnly s (t.log e) :=
  h.trans ⟨rfl, rfl, rfl, rfl, rfl, rfl⟩

theorem swsOnly_swCount {s t : State} (n : Nat) (h : SwsOnly s t) : SwsOnly s (t.swCount n) :=
  h.trans ⟨rfl, rfl, rfl, rfl, rfl, rfl⟩

theorem swsOnly_lineSample {s t : State} (h : SwsOnly s t) : SwsOnly s (lineSample t).2 :=
  h.trans (lineSample_sampled t).swsOnly

theorem swsOnly_swEnterAckL {s t : State} (h : SwsOnly s t) : SwsOnly s (swEnterAckL t) :=
  h.trans ⟨rfl, rfl, rfl, rfl, rfl, rfl⟩

theorem swsOnly_swEnterStartH {s t : State} (h : SwsOnly s t) : SwsOnly s (swEnterStartH t) := by
  have hd := swsOnly_swEnter .startH (swsOnly_lineDrive true h)
  unfold swEnterStartH
  dsimp only
  split
  · exact swsOnly_swEnterAckL (swsOnly_log _ hd)
  · exact hd

theorem swsOnly_swEnterStartL {s t : State} (h : SwsOnly s t) : SwsOnly s (swEnterStartL t) := by
  have hd := swsOnly_swEnter .startL (swsOnly_lineDrive false h)
  unfold swEnterStartL
  dsimp only
  split
  · exact swsOnly_swEnterStartH (swsOnly_log _ hd)
  · exact hd

/-- A tick of a driven phase touches what counting it and leaving the phase touch. -/
theorem swsOnly_swDriven {s : State} {next : State → State} (n : Nat)
    (hn : ∀ t, SwsOnly s t → SwsOnly s (next t)) : SwsOnly s (swDriven n next s) := by
  have hc : SwsOnly s ((s.tickBy 1).swCount (s.sws.cnt + 1)) := ⟨rfl, rfl, rfl, rfl, rfl, rfl⟩
  unfold swDriven
  dsimp only
  split
  · exact hn _ (swsOnly_log _ hc)
  · exact hc

/-- A sample of a wait touches what sampling, leaving the wait and a timeout touch. -/
theorem swsOnly_swWaiting {s : State} {next : State → State} (level : Bool) (bound : Nat)
    (hn : ∀ t, SwsOnly s t → SwsOnly s (next t)) : SwsOnly s (swWaiting level bound next s) := by
  have hl := swsOnly_lineSample (SwsOnly.rfl (s := s))
  unfold swWaiting
  dsimp only
  split
  · exact hn _ hl
  · split
    · exact swsOnly_fail _ (swsOnly_swCount _ hl)
    · exact swsOnly_swCount _ hl

theorem swsOnly_swMeasuring (s : State) : SwsOnly s (swMeasuring s) := by
  have hl := swsOnly_lineSample (SwsOnly.rfl (s := s))
  have hstore : SwsOnly s (storeBit (lineSample s).2) := hl.trans ⟨rfl, rfl, rfl, rfl, rfl, rfl⟩
  unfold swMeasuring
  dsimp only
  split
  · split
    · exact swsOnly_fail _ (swsOnly_swCount _ hl)
    · exact swsOnly_swCount _ hl
  · split
    · exact swsOnly_swEnter _ hstore
    · exact hstore.trans (swsOnly_finish (swsOnly_checkAndCommit .rfl))

/-- A tick of the SWS state machine touches nothing that is not its unit's. -/
theorem swTick_frame (s : State) : SwsOnly s (swTick s) := by
  unfold swTick
  split
  case h_1 => exact .rfl
  case h_2 => exact swsOnly_swDriven _ fun _ => swsOnly_swEnterStartL
  case h_3 => exact swsOnly_swDriven _ fun _ => swsOnly_swEnterStartH
  case h_4 => exact swsOnly_swDriven _ fun _ => swsOnly_swEnterAckL
  case h_5 => exact swsOnly_swWaiting _ _ fun _ => swsOnly_swEnter _
  case h_6 => exact swsOnly_swWaiting _ _ fun _ k => swsOnly_swEnter _ (k.trans ⟨rfl, rfl, rfl, rfl, rfl, rfl⟩)
  case h_7 => exact swsOnly_swWaiting _ _ fun _ => swsOnly_swEnter _
  case h_8 => exact swsOnly_swWaiting _ _ fun _ => swsOnly_swEnter _
  case h_9 => exact swsOnly_swMeasuring s

/-! ## What follows a wire command -/

theorem afterWire_frame (s : State) : DspOnly s (afterWire s) := by
  unfold afterWire
  split
  case h_1 => split <;> exact dspOnly_at _ .rfl
  case h_2 | h_3 => exact dspOnly_at _ .rfl
  case h_4 => exact ⟨rfl, .inl rfl, rfl, rfl, rfl, rfl⟩
  all_goals exact .rfl

/-- A wire command inside its operation: it answers a state, after which the sequencer goes on unless the operation has ended. -/
theorem inOperation_eq_next {o : Host.Outcome State Fault Refusal} {t : State} (h : inOperation o = .next t) :
    ∃ m, o = .next m ∧ t = if m.busy then afterWire m else m := by
  cases o with
  | next m =>
    cases h
    exact ⟨m, rfl, rfl⟩
  | fault | refused => exact nomatch h

/-! ## The parameters -/

theorem exec_cfg {i : Instr} {s t : State} (h : exec i s = .next t) : t.cfg = s.cfg := by
  rcases exec_unit_cases h with ⟨_, _, k⟩ | ⟨_, _, k⟩ | ⟨_, _, k⟩ <;> exact k.cfg

theorem innerStatement_cfg (s : State) : (innerStatement s).cfg = s.cfg := by
  rcases innerStatement_cases s with ⟨_, h⟩ | ⟨_, _, h⟩ | ⟨_, _, h⟩ <;> rw [h]
  · exact (dsStatement_frame s).cfg
  · exact (cbStatement_frame s).cfg
  · rfl

/-- A step of the idle block writes no parameter: a host's move is no write, and no instruction writes one. -/
theorem step_idle_cfg {s t : State} (hb : s.busy = false) (h : step s = .next t) : t.cfg = s.cfg := by
  rcases step_idle_cases hb h with ⟨_, rfl⟩ | ⟨_, _, _, rfl⟩ | ⟨_, _, _, _, _, _, he⟩ | ⟨_, _, _, _, _, _, rfl⟩
  · rfl
  · rfl
  · have hcfg := exec_cfg he
    exact hcfg
  · rfl

/-- A step inside an operation writes no parameter, whichever unit's sequencer goes on. -/
theorem step_busy_cfg {s t : State} (hb : s.busy = true) (h : step s = .next t) : t.cfg = s.cfg := by
  rcases step_busy_cases hb h with ⟨_, rfl⟩ | ⟨_, i, _, he⟩ | ⟨_, _, rfl⟩
  · exact (swTick_frame _).cfg.trans (ignorePacket_cfg s)
  · obtain ⟨m, hm, rfl⟩ := inOperation_eq_next he
    have hcfg := (exec_cfg hm).trans (ignorePacket_cfg s)
    split
    · exact (afterWire_frame m).cfg.trans hcfg
    · exact hcfg
  · exact (innerStatement_cfg _).trans (ignorePacket_cfg s)

/-! ## A step inside an operation -/

/-- Inside an operation of CBS or DSP, with no packet waiting at the port. -/
structure State.Operating (s : State) : Prop where
  busy   : s.busy = true
  swIdle : s.sws.seq = .idle
  noMove : s.env.port = []

theorem ignorePacket_of_noMove {s : State} (h : s.env.port = []) : s.ignorePacket = s := by
  unfold State.ignorePacket
  rw [h]

theorem step_operating {s : State} (hs : s.Operating) : step s = stepBusy s := by
  unfold step
  rw [if_pos hs.busy, ignorePacket_of_noMove hs.noMove]

/-- At a wire command's label a step is that command. -/
theorem step_wire {s : State} {i : Instr} (hs : s.Operating) (hw : wireAt s.dsp.seq = some i) :
    step s = inOperation (exec i s) := by
  rw [step_operating hs, stepBusy, if_pos hs.swIdle, hw]

/-- At any other label a step is the statement there. -/
theorem step_inner {s : State} (hs : s.Operating) (hw : wireAt s.dsp.seq = none) :
    step s = .next (innerStatement s) := by
  rw [step_operating hs, stepBusy, if_pos hs.swIdle, hw]

end Sys2Proof.Machine
end

section
/-! The reset state. -/

namespace Sys2Proof.Machine

/-- The default parameters meet the constraints of `00_scope.md` R7 to R9. -/
theorem default_ok : Config.default.Ok where
  ackPos := by decide
  bitPos := by decide
  threshBelow := by decide
  addrDistinct := by decide
  widthPos := by decide
  widthLe := by decide
  heightPos := by decide
  heightLe := by decide
  areaLt := by decide
  chunkPos := by decide
  dataShort := by decide

/-- The default opcodes tell the address commands apart. -/
theorem default_addressOpsDistinct : Config.default.AddressOpsDistinct where
  casetRaset := by decide
  casetRamwr := by decide
  rasetRamwr := by decide
  initCaset := by decide
  initRaset := by decide
  initRamwr := by decide

theorem resetWith_quiet (c : Config) : (State.resetWith c).Quiet := ⟨rfl, rfl, rfl, rfl, rfl, rfl⟩

/-- With legal parameters the reset state has the invariant: nothing is in flight, no window is open, no reading is held. -/
theorem resetWith_inv {c : Config} (h : c.Ok) : (State.resetWith c).Inv where
  cfgOk := h
  quiet := resetWith_quiet c
  streamNew := nofun
  window := nofun
  readNew := nofun
  chunkSize := List.length_replicate

/-- Nothing has been sent at reset. -/
theorem resetWith_busSafe (c : Config) : (State.resetWith c).BusSafe where
  inside := trivial
  lastSent := nofun

theorem resetWith_responsesOk (c : Config) : (State.resetWith c).ResponsesOk := nofun

end Sys2Proof.Machine
end

section
/-! Operations stepped statement by statement: how many steps lead from a label to the end of its operation, and that this end is
the one the operation reaches at once. -/

namespace Sys2Proof.Machine

/-! ## Reaching a state -/

/-- At most N steps lead from `s` to `t`. -/
def ReachesWithin (N : Nat) (s t : State) : Prop := ∃ n, n ≤ N ∧ Sys2Proof.core.run n s = .next t

theorem coreRun_succ {M : Host.Core} {s m : M.State} (h : M.step s = .next m) (n : Nat) :
    M.run (n + 1) s = M.run n m := by
  rw [Host.Core.run, h]

theorem run_succ {s m : State} (h : step s = .next m) (n : Nat) :
    Sys2Proof.core.run (n + 1) s = Sys2Proof.core.run n m :=
  coreRun_succ (M := Sys2Proof.core) h n

theorem ReachesWithin.refl (N : Nat) (s : State) : ReachesWithin N s s := ⟨0, N.zero_le, rfl⟩

theorem ReachesWithin.cons {N : Nat} {s m t : State} (h : step s = .next m) (hr : ReachesWithin N m t) :
    ReachesWithin (N + 1) s t := by
  obtain ⟨n, hn, ht⟩ := hr
  exact ⟨n + 1, Nat.succ_le_succ hn, (run_succ h n).trans ht⟩

theorem ReachesWithin.last {N : Nat} {s t : State} (h : step s = .next t) : ReachesWithin (N + 1) s t :=
  .cons h (.refl N t)

theorem ReachesWithin.mono {N M : Nat} {s t : State} (h : N ≤ M) (hr : ReachesWithin N s t) : ReachesWithin M s t := by
  obtain ⟨n, hn, ht⟩ := hr
  exact ⟨n, hn.trans h, ht⟩

theorem finish_busy (u : BlockUnit) (p : State → List Byte) (r : Run) : (r.finish u p).busy = false := by
  cases r <;> cases u <;> rfl

/-- An operation does not end without a step. -/
theorem ReachesWithin.exists_run {N : Nat} {s : State} {u : BlockUnit} {p : State → List Byte} {r : Run}
    (hb : s.busy = true) (h : ReachesWithin N s (r.finish u p)) :
    ∃ n, 1 ≤ n ∧ n ≤ N ∧ Sys2Proof.core.run n s = .next (r.finish u p) := by
  obtain ⟨n, hn, ht⟩ := h
  refine ⟨n, Nat.pos_of_ne_zero fun h0 => ?_, hn, ht⟩
  subst h0
  have hs : s = r.finish u p := Host.Outcome.next.inj ht
  have hf := finish_busy u p r
  rw [← hs, hb] at hf
  exact nomatch hf

/-- The rule of a statement: one step does the statement, and where it completes the rest is reached. -/
theorem reachesWithin_goOn {N : Nat} {s : State} {u : BlockUnit} {p : State → List Byte} {r : Run} {f : State → Run}
    {next : State → State} {P : State → Prop} (h : step s = .next (r.goOn u next)) (hr : r.Ends P)
    (hn : ∀ m, P m → ReachesWithin N (next m) ((f m).finish u p)) :
    ReachesWithin (N + 1) s ((r.andThen f).finish u p) := by
  cases r with
  | ok m => exact .cons h (hn m hr)
  | err e m => exact .last h

/-! ## What the statements keep -/

theorem Run.ends_and {P Q : State → Prop} {r : Run} (hp : r.Ends P) (hq : r.Ends Q) : r.Ends fun s => P s ∧ Q s := by
  cases r <;> exact ⟨hp, hq⟩

/-- Inside an operation, with `DS_SEQ` at `q`. -/
structure State.OperatingAt (q : DsSeq) (s : State) : Prop extends s.Operating where
  label : s.dsp.seq = q

theorem operatingAt_dsAt {s : State} (q : DsSeq) (h : s.Operating) : (s.dsAt q).OperatingAt q :=
  ⟨⟨h.busy, h.swIdle, h.noMove⟩, rfl⟩

theorem dsAt_eq_self {s : State} {q : DsSeq} (h : s.dsp.seq = q) : s.dsAt q = s := by
  subst h
  rfl

theorem cbAt_eq_self {s : State} {q : CbSeq} (h : s.cbs.seq = q) : s.cbAt q = s := by
  subst h
  rfl

section
variable {q : DsSeq} {s : State}

/-- A checked transfer keeps the place, whatever the sink answers. -/
theorem operatingAt_transfer {r : Run} {e f : Event} {dc : Bool} (h : s.OperatingAt q)
    (hr : (∃ u, r = .ok u ∧ Transferred e dc s u) ∨ ∃ u, r = .err .busError (dropStream u) ∧ Transferred f dc s u) :
    r.Ends (State.OperatingAt q) := by
  have keep : ∀ {e u}, Transferred e dc s u → u.OperatingAt q := fun {e u} k =>
    ⟨⟨k.busy.trans h.busy, (congrArg Sws.seq k.sws).trans h.swIdle, k.port.trans h.noMove⟩,
      (congrArg Dsp.seq k.dsp).trans h.label⟩
  rcases hr with ⟨u, rfl, k⟩ | ⟨u, rfl, k⟩
  · exact keep k
  · have hu := keep k
    exact ⟨⟨hu.busy, hu.swIdle, hu.noMove⟩, hu.label⟩

theorem operatingAt_dsCmd (b : Byte) (h : s.OperatingAt q) : (dsCmd b s).Ends (State.OperatingAt q) :=
  operatingAt_transfer h (dsCmd_cases b s)

theorem operatingAt_dsData (bytes : List Byte) (h : s.OperatingAt q) : (dsData bytes s).Ends (State.OperatingAt q) :=
  operatingAt_transfer h (dsData_cases bytes s)

theorem operatingAt_sendInit (k : Fin 16) (h : s.OperatingAt q) : (sendInit k s).Ends (State.OperatingAt q) := by
  refine Run.ends_andThen (Run.ends_andThen (operatingAt_dsCmd _ h) fun m hm => ?_) fun _ hm =>
    ⟨⟨hm.busy, hm.swIdle, hm.noMove⟩, hm.label⟩
  split
  · exact hm
  · exact operatingAt_dsData _ hm

theorem operatingAt_sendCaset (x0 x1 : Half) (h : s.OperatingAt q) : (sendCaset x0 x1 s).Ends (State.OperatingAt q) :=
  Run.ends_andThen (operatingAt_dsCmd _ h) fun _ => operatingAt_dsData _

theorem operatingAt_sendRaset (y0 y1 : Half) (h : s.OperatingAt q) : (sendRaset y0 y1 s).Ends (State.OperatingAt q) :=
  Run.ends_andThen (operatingAt_dsCmd _ h) fun _ => operatingAt_dsData _

theorem operatingAt_setWindow (x0 y0 x1 y1 : Half) (h : s.OperatingAt q) :
    (setWindow x0 y0 x1 y1 s).Ends (State.OperatingAt q) := by
  refine Run.ends_andThen (Run.ends_andThen (Run.ends_andThen (operatingAt_sendCaset _ _ h) ?_) ?_) ?_
  · exact fun _ => operatingAt_sendRaset _ _
  · exact fun _ => operatingAt_dsCmd _
  · exact fun _ k => ⟨⟨k.busy, k.swIdle, k.noMove⟩, k.label⟩

theorem operatingAt_streamChunk (n : Nat) (h : s.Operating) :
    (streamChunk n s).Ends (State.OperatingAt (.stream n)) :=
  Run.ends_andThen (operatingAt_dsData _ (operatingAt_dsAt _ h)) fun _ k => ⟨⟨k.busy, k.swIdle, k.noMove⟩, k.label⟩

theorem operating_backlightOn (h : s.Operating) : (backlightOn s).Operating :=
  ⟨by simp [h.busy], by simp [h.swIdle], by simp [h.noMove]⟩

theorem operatingAt_cbAt (c : CbSeq) (h : s.OperatingAt q) : (s.cbAt c).OperatingAt q :=
  ⟨⟨h.busy, h.swIdle, h.noMove⟩, h.label⟩

theorem operatingAt_i2cRead (a : BitVec 7) (reg : Byte) (n : Nat) (h : s.OperatingAt q) :
    (i2cRead a reg n s).2.OperatingAt q := by
  obtain ⟨_, hbusy, hsws, _, hdsp, hport, _⟩ := i2cRead_frame a reg n s
  exact ⟨⟨hbusy.trans h.busy, (congrArg Sws.seq hsws).trans h.swIdle, hport.trans h.noMove⟩,
    (congrArg Dsp.seq hdsp).trans h.label⟩

theorem operatingAt_i2cWrite (a : BitVec 7) (reg : Byte) (bytes : List Byte) (h : s.OperatingAt q) :
    (i2cWrite a reg bytes s).2.OperatingAt q := by
  obtain ⟨_, hbusy, hsws, _, hdsp, hport, _⟩ := i2cWrite_frame a reg bytes s
  exact ⟨⟨hbusy.trans h.busy, (congrArg Sws.seq hsws).trans h.swIdle, hport.trans h.noMove⟩,
    (congrArg Dsp.seq hdsp).trans h.label⟩

theorem operatingAt_probe (addr : BitVec 7) (second : Bool) (h : s.OperatingAt q) :
    (probe addr second s).2.OperatingAt q := operatingAt_i2cRead _ _ _ (operatingAt_cbAt _ h)

theorem operatingAt_cbCalib (found : BitVec 7) (h : s.OperatingAt q) :
    (cbCalib found s).Ends (State.OperatingAt q) := by
  have hr := operatingAt_i2cRead found s.cfg.cbRegCalib Config.calibLen (operatingAt_cbAt (.calib found) h)
  unfold cbCalib
  dsimp only
  split <;> exact ⟨⟨hr.busy, hr.swIdle, hr.noMove⟩, hr.label⟩

theorem operatingAt_cbConfig (found : BitVec 7) (h : s.OperatingAt q) :
    (cbConfig found s).Ends (State.OperatingAt q) := by
  have hw := operatingAt_i2cWrite found s.cfg.cbRegCtrl [s.cfg.cbCtrlValue] (operatingAt_cbAt (.config found) h)
  unfold cbConfig
  dsimp only
  split
  · exact hw
  · exact ⟨⟨hw.busy, hw.swIdle, hw.noMove⟩, hw.label⟩

theorem operatingAt_cbCheck (h : s.OperatingAt q) : (cbCheck s).Ends (State.OperatingAt q) := by
  unfold cbCheck
  split
  · exact operatingAt_cbAt _ h
  · exact h

theorem operatingAt_cbReadT (h : s.OperatingAt q) : (cbReadT s).Ends (State.OperatingAt q) := by
  have hr := operatingAt_i2cRead s.cbs.addr s.cfg.cbRegTemp 3 (operatingAt_cbAt .rdT h)
  unfold cbReadT
  dsimp only
  split
  · exact hr
  · exact ⟨⟨hr.busy, hr.swIdle, hr.noMove⟩, hr.label⟩

theorem operatingAt_cbReadP (h : s.OperatingAt q) : (cbReadP s).Ends (State.OperatingAt q) := by
  have hr := operatingAt_i2cRead s.cbs.addr s.cfg.cbRegPress 3 (operatingAt_cbAt .rdP h)
  unfold cbReadP
  dsimp only
  split
  · exact hr
  · exact ⟨⟨hr.busy, hr.swIdle, hr.noMove⟩, hr.label⟩

end

/-! ## The CBS sequencer -/

/-- With `DS_SEQ` idle, a step at a label of CBS is the statement there. -/
theorem step_cbAt {s t : State} {c : CbSeq} (ht : cbStatement (s.cbAt c) = t) (h : s.OperatingAt .idle)
    (hc : c ≠ .idle := by nofun) : step (s.cbAt c) = .next t := by
  have hs := operatingAt_cbAt c h
  rw [step_inner hs.toOperating (by rw [hs.label]; rfl)]
  rcases innerStatement_cases (s.cbAt c) with ⟨hd, _⟩ | ⟨_, _, hi⟩ | ⟨_, hi, _⟩
  · exact absurd hs.label hd
  · rw [hi, ht]
  · exact absurd hi hc

section
variable (s : State) (addr found : BitVec 7) (t p : Word)

theorem cbStatement_entry :
    cbStatement (s.cbAt (.entry addr)) = (cbEntry addr s).cbAt (.probe addr false) := rfl

theorem cbStatement_calib :
    cbStatement (s.cbAt (.calib found)) = (cbCalib found s).goOn .cbs (·.cbAt (.config found)) := rfl

theorem cbStatement_config :
    cbStatement (s.cbAt (.config found)) = (cbConfig found s).goOn .cbs (·.cbAt (.newDone found)) := rfl

theorem cbStatement_newDone :
    cbStatement (s.cbAt (.newDone found)) = (Run.ok (cbDone found s)).finish .cbs noPayload := rfl

theorem cbStatement_check :
    cbStatement (s.cbAt .check) = (cbCheck (s.cbAt .check)).goOn .cbs (·.cbAt .rdT) := rfl

theorem cbStatement_rdT : cbStatement (s.cbAt .rdT) = (cbReadT s).goOn .cbs (·.cbAt .rdP) := rfl

theorem cbStatement_rdP : cbStatement (s.cbAt .rdP) = (cbReadP s).goOn .cbs (·.cbAt .compT) := rfl

theorem cbStatement_compT : cbStatement (s.cbAt .compT) = (cbCompT s).cbAt .compP := rfl

theorem cbStatement_readDone :
    cbStatement (s.cbAt (.readDone t p)) = (Run.ok (cbCommit t p s)).finish .cbs readPayload := rfl

end

section
variable {s : State} {addr : BitVec 7}

theorem cbStatement_probe_found {second : Bool} (h : (probe addr second s).1 = true) :
    cbStatement (s.cbAt (.probe addr second))
      = (probe addr second s).2.cbAt (.calib (candidate s.cfg addr second)) := if_pos h

theorem cbStatement_probe_first (h : ¬ (probe addr false s).1 = true) :
    cbStatement (s.cbAt (.probe addr false)) = (probe addr false s).2.cbAt (.probe addr true) := if_neg h

theorem cbStatement_probe_second (h : ¬ (probe addr true s).1 = true) :
    cbStatement (s.cbAt (.probe addr true)) = (probe addr true s).2.fail .cbs .deviceNotFoundError := if_neg h

theorem cbStatement_compP_none (h : compP s.cbs.adcP s.cbs.tfine s.cbs.coef = none) :
    cbStatement (s.cbAt .compP) = s.fail .cbs .compensationError := by
  unfold cbStatement
  simp only [cbAt_cbs, h]
  rfl

theorem cbStatement_compP_some {p : Word} (h : compP s.cbs.adcP s.cbs.tfine s.cbs.coef = some p) :
    cbStatement (s.cbAt .compP) = s.cbAt (.readDone (compT s.cbs.adcT s.cbs.coef).2 p) := by
  unfold cbStatement
  simp only [cbAt_cbs, h]
  rfl

end

/-! ### CB_NEW -/

/-- `CALIB`, `CONFIG`, `DONE`. -/
theorem cbBuild_reaches {s : State} (found : BitVec 7) (hs : s.OperatingAt .idle) :
    ReachesWithin 3 (s.cbAt (.calib found)) ((cbBuild found s).finish .cbs noPayload) := by
  unfold cbBuild
  rw [Run.andThen_assoc]
  refine reachesWithin_goOn (step_cbAt (cbStatement_calib s found) hs)
    (operatingAt_cbCalib found hs) fun m hm => ?_
  refine reachesWithin_goOn (step_cbAt (cbStatement_config m found) hm)
    (operatingAt_cbConfig found hm) fun m hm => ?_
  exact .last (step_cbAt (cbStatement_newDone m found) hm)

/-- `PROBE` at the second candidate, and what follows a match. -/
theorem secondProbe_reaches {s : State} (addr : BitVec 7) (hs : s.OperatingAt .idle) :
    ReachesWithin 4 (s.cbAt (.probe addr true))
      ((if (probe addr true s).1 then cbBuild (altAddr s.cfg addr) (probe addr true s).2
        else .err .deviceNotFoundError (probe addr true s).2).finish .cbs noPayload) := by
  split
  next h => exact .cons (step_cbAt (cbStatement_probe_found h) hs) (cbBuild_reaches _ (operatingAt_probe addr true hs))
  next h => exact .last (step_cbAt (cbStatement_probe_second h) hs)

theorem probe_cfg (addr : BitVec 7) (second : Bool) (s : State) : (probe addr second s).2.cfg = s.cfg :=
  (i2cRead_frame _ _ _ _).1

theorem cbNew_reaches {s : State} (addr : BitVec 7) (hs : s.OperatingAt .idle) :
    ReachesWithin 6 (s.cbAt (.entry addr)) ((cbNew addr s).finish .cbs noPayload) := by
  refine .cons (step_cbAt (cbStatement_entry s addr) hs) ?_
  have he : (cbEntry addr s).OperatingAt .idle := ⟨⟨hs.busy, hs.swIdle, hs.noMove⟩, hs.label⟩
  unfold cbNew
  dsimp only
  split
  next h =>
    exact .cons (step_cbAt (cbStatement_probe_found h) he)
      (.mono (by omega) (cbBuild_reaches _ (operatingAt_probe addr false he)))
  next h =>
    have h2 := secondProbe_reaches addr (operatingAt_probe addr false he)
    rw [probe_cfg, cbEntry_cfg] at h2
    exact .cons (step_cbAt (cbStatement_probe_first h) he) h2

/-! ### CB_READ -/

/-- `COMP_P` and `DONE`. -/
theorem cbCompP_reaches {s : State} (hs : s.OperatingAt .idle) :
    ReachesWithin 2 (s.cbAt .compP) ((cbCompP s).finish .cbs readPayload) := by
  unfold cbCompP
  split
  next h => exact .last (step_cbAt (cbStatement_compP_none h) hs)
  next p h =>
    exact .cons (step_cbAt (cbStatement_compP_some h) hs) (.last (step_cbAt (cbStatement_readDone ..) hs))

theorem cbRead_reaches {s : State} (hs : s.OperatingAt .idle) :
    ReachesWithin 6 (s.cbAt .check) ((cbRead (s.cbAt .check)).finish .cbs readPayload) := by
  unfold cbRead
  rw [Run.andThen_assoc, Run.andThen_assoc]
  refine reachesWithin_goOn (step_cbAt (cbStatement_check s) hs)
    (operatingAt_cbCheck (operatingAt_cbAt _ hs)) fun m hm => ?_
  refine reachesWithin_goOn (step_cbAt (cbStatement_rdT m) hm)
    (operatingAt_cbReadT hm) fun m hm => ?_
  refine reachesWithin_goOn (step_cbAt (cbStatement_rdP m) hm)
    (operatingAt_cbReadP hm) fun m hm => ?_
  refine .cons (step_cbAt (cbStatement_compT m) hm) ?_
  exact cbCompP_reaches ⟨⟨hm.busy, hm.swIdle, hm.noMove⟩, hm.label⟩

/-! ## The DSP sequencer -/

/-- A step at a label of DSP that is no wire command is the statement there. -/
theorem step_dsAt {s t : State} {q : DsSeq} (ht : dsStatement (s.dsAt q) = t) (h : s.Operating)
    (hq : q ≠ .idle := by nofun) (hw : wireAt q = none := by rfl) : step (s.dsAt q) = .next t := by
  rw [step_inner (operatingAt_dsAt q h).toOperating hw]
  rcases innerStatement_cases (s.dsAt q) with ⟨_, hi⟩ | ⟨hi, _⟩ | ⟨hi, _⟩
  · rw [hi, ht]
  · exact absurd hi hq
  · exact absurd hi hq

/-- A step at a wire command's label is its transfers; where they complete the sequencer goes on. -/
theorem step_wire_goOn {s : State} {q : DsSeq} {i : Instr} {r : Run} (h : s.OperatingAt q) (hw : wireAt q = some i)
    (he : exec i s = .next r.statement) (hr : r.Ends (State.OperatingAt q)) :
    step s = .next (r.goOn .dsp afterWire) := by
  rw [step_wire h.toOperating (by rw [h.label]; exact hw), he]
  cases r with
  | ok m => exact congrArg _ (if_pos hr.busy)
  | err e m => rfl

section
variable (s : State)

theorem dsStatement_entry : dsStatement (s.dsAt .entry) = (dsEntry s).dsAt .reset := rfl

theorem dsStatement_reset : dsStatement (s.dsAt .reset) = (hardReset s).dsAt (.init 0) := rfl

theorem dsStatement_bl : dsStatement (s.dsAt .bl) = (backlightOn s).dsAt .done := rfl

theorem dsStatement_done : dsStatement (s.dsAt .done) = (Run.ok (dsDone s)).finish .dsp noPayload := rfl

theorem dsStatement_win (x y : Half) (w h : Nat) (color : Half) :
    dsStatement (s.dsAt (.win x y w h color))
      = (fillWindow x y w h (s.dsAt (.win x y w h color))).goOn .dsp (·.dsAt (.load (w * h) color)) := rfl

theorem dsStatement_load (n : Nat) (color : Half) :
    dsStatement (s.dsAt (.load n color)) = (loadChunk n color s).dsAt (.stream n) := rfl

theorem dsStatement_stream_zero : dsStatement (s.dsAt (.stream 0)) = (Run.ok s).finish .dsp noPayload := rfl

end

theorem dsStatement_stream {s : State} {n : Nat} (h : n ≠ 0) :
    dsStatement (s.dsAt (.stream n))
      = (streamChunk n s).goOn .dsp (·.dsAt (.stream (n - min n s.cfg.dsChunk))) := if_neg h

/-! ### DS_NEW -/

theorem wireAt_init (k : Fin 16) : wireAt (.init k) = some initInstrs[k] := rfl

/-- The instruction of an entry sends that entry. -/
theorem exec_initInstr (k : Fin 16) (s : State) : exec initInstrs[k] s = .next (sendInit k s).statement := by
  fin_cases k <;> rfl

theorem afterWire_init {s : State} {k : Fin 16} (h : s.dsp.seq = .init k) :
    afterWire s = if hk : k.val + 1 < 16 then s.dsAt (.init ⟨k.val + 1, hk⟩) else s.dsAt .bl := by
  unfold afterWire
  rw [h]

/-- `BL` and `DONE`. -/
theorem dsReady_reaches {s : State} (hs : s.Operating) :
    ReachesWithin 2 (s.dsAt .bl) ((Run.ok (dsReady s)).finish .dsp noPayload) := by
  refine .cons (step_dsAt (dsStatement_bl s) hs) ?_
  exact .last (step_dsAt (dsStatement_done _) (operating_backlightOn hs))

theorem step_init {s : State} (k : Fin 16) (hs : s.Operating) :
    step (s.dsAt (.init k)) = .next ((sendInit k (s.dsAt (.init k))).goOn .dsp afterWire) :=
  step_wire_goOn (operatingAt_dsAt _ hs) (wireAt_init k) (exec_initInstr k _)
    (operatingAt_sendInit k (operatingAt_dsAt _ hs))

/-- `INIT` from entry k on: that entry, then the entries after it. -/
theorem initLoop_drop {k : Nat} (hk : k < 16) (s : State) :
    initLoop ((List.finRange 16).drop k) s
      = (sendInit ⟨k, hk⟩ (s.dsAt (.init ⟨k, hk⟩))).andThen (initLoop ((List.finRange 16).drop (k + 1))) := by
  rw [List.drop_eq_getElem_cons (by simpa using hk), List.getElem_finRange]
  rfl

/-- `INIT` from entry k, which n entries follow, to the end of `DS_NEW`. -/
theorem initLoop_reaches (n : Nat) {k : Nat} (hk : k + n + 1 = 16) {s : State} (hs : s.Operating) :
    ReachesWithin (n + 3) (s.dsAt (.init ⟨k, by omega⟩))
      (((initLoop ((List.finRange 16).drop k) s).andThen fun t => .ok (dsReady t)).finish .dsp noPayload) := by
  induction n generalizing k s with
  | zero =>
    rw [initLoop_drop (by omega), Run.andThen_assoc]
    refine reachesWithin_goOn (step_init _ hs) (operatingAt_sendInit _ (operatingAt_dsAt _ hs)) fun m hm => ?_
    rw [afterWire_init hm.label, dif_neg (by simp only; omega), List.drop_of_length_le (by simp; omega)]
    exact dsReady_reaches hm.toOperating
  | succ n ih =>
    rw [initLoop_drop (by omega), Run.andThen_assoc]
    refine reachesWithin_goOn (step_init _ hs) (operatingAt_sendInit _ (operatingAt_dsAt _ hs)) fun m hm => ?_
    rw [afterWire_init hm.label, dif_pos (by simp only; omega)]
    exact ih (k := k + 1) (by omega) hm.toOperating

theorem dsNew_reaches {s : State} (hs : s.Operating) :
    ReachesWithin 20 (s.dsAt .entry) ((dsNew s).finish .dsp noPayload) := by
  refine .cons (step_dsAt (dsStatement_entry s) hs) ?_
  have he : (dsEntry s).Operating := ⟨hs.busy, hs.swIdle, hs.noMove⟩
  refine .cons (step_dsAt (dsStatement_reset (dsEntry s)) he) ?_
  exact initLoop_reaches (k := 0) 15 rfl ⟨he.busy, he.swIdle, he.noMove⟩

/-! ### DS_SET_WINDOW -/

/-- The same statement with `f` done to the state where it stops. -/
def Run.map (f : State → State) : Run → Run
  | .ok s => .ok (f s)
  | .err e s => .err e (f s)

theorem Run.map_andThen {f : State → State} {g : State → Run} (r : Run) (h : ∀ s, g (f s) = (g s).map f) :
    (r.map f).andThen g = (r.andThen g).map f := by
  cases r with
  | ok s => exact h s
  | err e s => rfl

/-- The end of a DSP operation forgets the label. -/
theorem finish_map_dsAt (q : DsSeq) (r : Run) :
    (r.map (·.dsAt q)).finish .dsp noPayload = r.finish .dsp noPayload := by
  cases r <;> rfl

/-- A transfer neither reads nor writes the label. -/
theorem checked_spiTransfer_dsAt (q : DsSeq) (dc : Bool) (event : Bool → Event) (s : State) :
    checked (spiTransfer dc event (s.dsAt q)) = (checked (spiTransfer dc event s)).map (·.dsAt q) := by
  have h : spiTransfer dc event (s.dsAt q)
      = ((spiTransfer dc event s).1, (spiTransfer dc event s).2.dsAt q) := by
    unfold spiTransfer State.nextSpi
    cases hc : s.cfg.dsHasCs <;> cases hs : s.env.spi <;> simp [chipSelect, State.tickBy, State.log, State.dsAt, hc, hs]
  unfold checked
  rw [h]
  dsimp only
  split <;> rfl

theorem dsCmd_dsAt (q : DsSeq) (b : Byte) (s : State) : dsCmd b (s.dsAt q) = (dsCmd b s).map (·.dsAt q) :=
  checked_spiTransfer_dsAt q _ _ s

theorem dsData_dsAt (q : DsSeq) (bytes : List Byte) (s : State) :
    dsData bytes (s.dsAt q) = (dsData bytes s).map (·.dsAt q) :=
  checked_spiTransfer_dsAt q _ _ s

theorem sendRaset_dsAt (q : DsSeq) (y0 y1 : Half) (s : State) :
    sendRaset y0 y1 (s.dsAt q) = (sendRaset y0 y1 s).map (·.dsAt q) := by
  unfold sendRaset
  rw [dsAt_cfg, dsCmd_dsAt, Run.map_andThen _ (dsData_dsAt q _)]

/-- The memory-write and the registers, which end the window encoder. -/
def finishWindow (x0 y0 x1 y1 : Half) (s : State) : Run :=
  (sendRamwr s).andThen fun t => .ok (openWindow x0 y0 x1 y1 t)

theorem setWindow_eq (x0 y0 x1 y1 : Half) (s : State) :
    setWindow x0 y0 x1 y1 s
      = (sendCaset x0 x1 s).andThen fun t => (sendRaset y0 y1 t).andThen (finishWindow x0 y0 x1 y1) := by
  unfold setWindow finishWindow
  rw [Run.andThen_assoc, Run.andThen_assoc]

theorem finishWindow_dsAt (q : DsSeq) (x0 y0 x1 y1 : Half) (s : State) :
    finishWindow x0 y0 x1 y1 (s.dsAt q) = (finishWindow x0 y0 x1 y1 s).map (·.dsAt q) := by
  unfold finishWindow sendRamwr
  rw [dsAt_cfg, dsCmd_dsAt, Run.map_andThen]
  intro m
  rfl

section
variable {x0 y0 x1 y1 : Half} {s : State}

theorem afterWire_caset (h : s.dsp.seq = .caset x0 y0 x1 y1) : afterWire s = s.dsAt (.raset x0 y0 x1 y1) := by
  unfold afterWire
  rw [h]

theorem afterWire_raset (h : s.dsp.seq = .raset x0 y0 x1 y1) : afterWire s = s.dsAt (.ramwr x0 y0 x1 y1) := by
  unfold afterWire
  rw [h]

theorem afterWire_ramwr (h : s.dsp.seq = .ramwr x0 y0 x1 y1) :
    afterWire s = (Run.ok (openWindow x0 y0 x1 y1 s)).finish .dsp noPayload := by
  unfold afterWire
  rw [h]
  rfl

/-- From the memory-write. -/
theorem ramwr_reaches (hs : s.OperatingAt (.ramwr x0 y0 x1 y1)) :
    ReachesWithin 1 s ((finishWindow x0 y0 x1 y1 s).finish .dsp noPayload) := by
  refine reachesWithin_goOn (step_wire_goOn hs rfl rfl (operatingAt_dsCmd _ hs)) (operatingAt_dsCmd _ hs) fun m hm => ?_
  rw [afterWire_ramwr hm.label]
  exact .refl 0 _

/-- From the row-address-set. -/
theorem raset_reaches (hs : s.OperatingAt (.raset x0 y0 x1 y1)) :
    ReachesWithin 2 s (((sendRaset y0 y1 s).andThen (finishWindow x0 y0 x1 y1)).finish .dsp noPayload) := by
  refine reachesWithin_goOn (step_wire_goOn hs rfl rfl (operatingAt_sendRaset _ _ hs)) (operatingAt_sendRaset _ _ hs)
    fun m hm => ?_
  have hr := ramwr_reaches (operatingAt_dsAt (.ramwr x0 y0 x1 y1) hm.toOperating)
  rw [finishWindow_dsAt, finish_map_dsAt] at hr
  rw [afterWire_raset hm.label]
  exact hr

/-- `SetWindow` from its first wire command. -/
theorem setWindow_reaches (hs : s.OperatingAt (.caset x0 y0 x1 y1)) :
    ReachesWithin 3 s ((setWindow x0 y0 x1 y1 s).finish .dsp noPayload) := by
  rw [setWindow_eq]
  refine reachesWithin_goOn (step_wire_goOn hs rfl rfl (operatingAt_sendCaset _ _ hs)) (operatingAt_sendCaset _ _ hs)
    fun m hm => ?_
  have hr := raset_reaches (operatingAt_dsAt (.raset x0 y0 x1 y1) hm.toOperating)
  rw [sendRaset_dsAt, Run.map_andThen _ (finishWindow_dsAt _ _ _ _ _), finish_map_dsAt] at hr
  rw [afterWire_caset hm.label]
  exact hr

end

/-! ### DS_FILL_RECT -/

theorem chunkCount_eq_zero {n c : Nat} (hc : 1 ≤ c) (h : chunkCount n c = 0) : n = 0 := by
  have := (Nat.div_eq_zero_iff.mp h).resolve_left (by omega)
  omega

theorem chunkCount_zero {c : Nat} (hc : 1 ≤ c) : chunkCount 0 c = 0 := Nat.div_eq_of_lt (by omega)

/-- A transfer of one chunk leaves one chunk less. -/
theorem chunkCount_sub {n c m : Nat} (hc : 1 ≤ c) (h : chunkCount n c = m + 1) : chunkCount (n - min n c) c = m := by
  unfold chunkCount at h ⊢
  rcases Nat.lt_or_ge c n with hn | hn
  · have hsplit : n + c - 1 = (n - min n c + c - 1) + c := by omega
    rw [hsplit, Nat.add_div_right _ hc] at h
    exact Nat.succ.inj h
  · have hlt : (n + c - 1) / c < 2 := Nat.div_lt_of_lt_mul (by omega)
    rw [Nat.min_eq_left hn, Nat.sub_self, Nat.div_eq_of_lt (by omega)]
    omega

/-- `STREAM` with n pixels left, to the end of the fill. -/
theorem streamChunks_reaches (m : Nat) {n : Nat} {s : State} (hs : s.Operating) (hc : 1 ≤ s.cfg.dsChunk)
    (hm : chunkCount n s.cfg.dsChunk = m) :
    ReachesWithin (m + 1) (s.dsAt (.stream n)) ((streamChunks m n s).finish .dsp noPayload) := by
  induction m generalizing n s with
  | zero =>
    obtain rfl := chunkCount_eq_zero hc hm
    exact .last (step_dsAt (dsStatement_stream_zero s) hs)
  | succ m ih =>
    have hn : n ≠ 0 := by
      rintro rfl
      rw [chunkCount_zero hc] at hm
      exact nomatch hm
    have hends := Run.ends_and (operatingAt_streamChunk n hs) (dspOnly_streamChunk n (DspOnly.rfl (s := s)))
    refine reachesWithin_goOn (step_dsAt (dsStatement_stream hn) hs) hends fun u hu => ?_
    obtain ⟨ho, hd⟩ := hu
    rw [← hd.cfg] at hc hm ⊢
    exact ih ho.toOperating hc (chunkCount_sub hc hm)

/-- `LOAD` and `STREAM`. -/
theorem loadChunk_reaches {s : State} (n : Nat) (color : Half) (hs : s.Operating) (hc : 1 ≤ s.cfg.dsChunk) :
    ReachesWithin (chunkCount n s.cfg.dsChunk + 2) (s.dsAt (.load n color))
      ((streamChunks (chunkCount n s.cfg.dsChunk) n (loadChunk n color s)).finish .dsp noPayload) :=
  .cons (step_dsAt (dsStatement_load s n color) hs)
    (streamChunks_reaches _ ⟨hs.busy, hs.swIdle, hs.noMove⟩ hc rfl)

/-- `WIN`, `LOAD`, `STREAM`. -/
theorem fillClamped_reaches {s : State} (x y : Half) (w h : Nat) (color : Half) (hs : s.Operating)
    (hc : 1 ≤ s.cfg.dsChunk) :
    ReachesWithin (chunkCount (w * h) s.cfg.dsChunk + 3) (s.dsAt (.win x y w h color))
      ((fillClamped x y w h color s).finish .dsp noPayload) := by
  have hends := Run.ends_and
    (operatingAt_setWindow x y (BitVec.ofNat 16 (x.toNat + w - 1)) (BitVec.ofNat 16 (y.toNat + h - 1))
      (operatingAt_dsAt (.win x y w h color) hs))
    (dspOnly_setWindow _ _ _ _ (dspOnly_at (.win x y w h color) .rfl))
  refine reachesWithin_goOn (step_dsAt (dsStatement_win s x y w h color) hs) hends fun u hu => ?_
  obtain ⟨ho, hd⟩ := hu
  rw [← hd.cfg] at hc ⊢
  exact loadChunk_reaches _ color ho.toOperating hc

theorem clampSide_mul_eq_clampedArea (c : Config) (x y w h : Half) :
    clampSide x.toNat w.toNat c.panelW * clampSide y.toNat h.toNat c.panelH = Claims.clampedArea c x y w h := by
  have hside : ∀ a b e : Nat, clampSide a b e = min (a + b) e - a := fun a b e => by
    unfold clampSide
    omega
  rw [hside, hside]
  rfl

theorem dsFillRect_reaches {s : State} {x y w h color : Half} (hs : s.OperatingAt (.clamp x y w h color))
    (hready : s.dsp.ready = true) (hc : 1 ≤ s.cfg.dsChunk) :
    ReachesWithin (chunkCount (Claims.clampedArea s.cfg x y w h) s.cfg.dsChunk + 4) s
      ((dsFillRect x y w h color s).finish .dsp noPayload) := by
  have hself := dsAt_eq_self hs.label
  have hstep := step_dsAt (s := s) (q := .clamp x y w h color) rfl hs.toOperating
  rw [hself] at hstep
  unfold dsFillRect needDisplay
  rw [if_pos hready, Run.ok_andThen, ← clampSide_mul_eq_clampedArea]
  unfold dsStatement at hstep
  simp only [hs.label] at hstep
  split
  next he =>
    rw [if_pos he] at hstep
    exact .last hstep
  next he =>
    rw [if_neg he] at hstep
    exact .cons hstep (fillClamped_reaches _ _ _ _ _ hs.toOperating hc)

end Sys2Proof.Machine
end

section
/-! The status flags (`10_state.md` R43) and the coefficient file: what the statements of each unit do to them, where an operation
completes and where it fails. -/

namespace Sys2Proof.Machine

open Sys2Proof.Claims

/-! ## Completed or failed -/

/-- Where the statements complete the state has P, and where one fails with a status the two have Q. -/
def Run.Post (P : State → Prop) (Q : Status → State → Prop) : Run → Prop
  | .ok s => P s
  | .err e s => Q e s

/-- Wherever the statements stop the state has P, and no failure carries the status `OK`. -/
abbrev Run.Keeps (P : State → Prop) : Run → Prop := Run.Post P fun e s => e ≠ .ok ∧ P s

section
variable {P P' : State → Prop} {Q Q' : Status → State → Prop} {r : Run}

theorem Run.post_andThen {f : State → Run} (hr : r.Post P Q) (hf : ∀ m, P m → (f m).Post P' Q) :
    (r.andThen f).Post P' Q := by
  cases r with
  | ok m => exact hf m hr
  | err e m => exact hr

theorem Run.keeps_andThen {f : State → Run} (hr : r.Keeps P) (hf : ∀ m, P m → (f m).Keeps P) :
    (r.andThen f).Keeps P := Run.post_andThen hr hf

theorem Run.Post.mono (hr : r.Post P Q) (hP : ∀ m, P m → P' m) (hQ : ∀ e m, Q e m → Q' e m) : r.Post P' Q' := by
  cases r with
  | ok m => exact hP m hr
  | err e m => exact hQ e m hr

/-- An operation ends in the response of its last statement or in the error of the one that failed. -/
theorem Run.Post.finish_cases {u : BlockUnit} {p : State → List Byte} (hr : r.Post P Q) :
    (∃ m, P m ∧ r.finish u p = m.respond u (p m)) ∨ ∃ e m, Q e m ∧ r.finish u p = m.fail u e := by
  cases r with
  | ok m => exact .inl ⟨m, hr, rfl⟩
  | err e m => exact .inr ⟨e, m, hr, rfl⟩

end

theorem Status.code_eq_zero {e : Status} : e.code = 0 ↔ e = .ok := by cases e <;> decide

theorem Status.code_eq_four {e : Status} : e.code = 4 ↔ e = .busError := by cases e <;> decide

theorem respond_responses (u : BlockUnit) (p : List Byte) (s : State) :
    (s.respond u p).obs.responses = (0 :: p) :: s.obs.responses := by cases u <;> rfl

theorem fail_responses (u : BlockUnit) (e : Status) (s : State) :
    (s.fail u e).obs.responses = [e.code] :: s.obs.responses := by cases u <;> rfl

/-- An operation that gave one response succeeded if the response is `OK`. -/
theorem succeeded_respond {s m : State} (u : BlockUnit) (p : List Byte) (h : m.obs.responses = s.obs.responses) :
    succeeded s (m.respond u p) := ⟨p, by rw [respond_responses, h]⟩

theorem not_succeeded_fail {s m : State} {e : Status} (u : BlockUnit) (he : e ≠ .ok) : ¬ succeeded s (m.fail u e) := by
  rintro ⟨p, hp⟩
  rw [fail_responses] at hp
  injection hp with hcode
  injection hcode with hcode
  exact he (Status.code_eq_zero.mp hcode)

/-! ## SWS -/

/-- The reading and the responses are as they were. -/
structure ReadingKept (s t : State) : Prop where
  hum       : t.sws.hum = s.sws.hum
  temp      : t.sws.temp = s.sws.temp
  valid     : t.sws.valid = s.sws.valid
  ts        : t.sws.ts = s.sws.ts
  responses : t.obs.responses = s.obs.responses

theorem ReadingKept.refl (s : State) : ReadingKept s s := ⟨rfl, rfl, rfl, rfl, rfl⟩

theorem ReadingKept.trans {s t u : State} (h : ReadingKept s t) (k : ReadingKept t u) : ReadingKept s u :=
  ⟨k.hum.trans h.hum, k.temp.trans h.temp, k.valid.trans h.valid, k.ts.trans h.ts, k.responses.trans h.responses⟩

/-- Samples that only count keep the reading. -/
theorem Sampled.readingKept {l : List Bool} {s t : State} {n : Nat} (h : Sampled l s t)
    (hsws : t.sws = { s.sws with cnt := n }) : ReadingKept s t := by
  constructor <;> simp [hsws, h.obs]

section
variable {s t : State}

theorem readingKept_awaitLevel (q : SwSeq) (level : Bool) (bound : Nat) (h : ReadingKept s t) :
    (awaitLevel q level bound t).Keeps (ReadingKept s) := by
  obtain ⟨_, _, hw, _, hsws, _⟩ := waitLevel_cases level bound ((t.swAt q).swCount 0)
  have hstart : ReadingKept s ((t.swAt q).swCount 0) := h.trans ⟨rfl, rfl, rfl, rfl, rfl⟩
  have hr := hstart.trans (hw.readingKept hsws)
  unfold awaitLevel
  dsimp only
  split
  · exact hr
  · exact ⟨nofun, hr⟩

theorem readingKept_highPhase (h : ReadingKept s t) : (highPhase t).Keeps (ReadingKept s) := by
  obtain ⟨_, _, hm, _, hsws, _⟩ := measureHigh_cases t.cfg.swNBit ((t.swAt .high).swCount 0)
  have hstart : ReadingKept s ((t.swAt .high).swCount 0) := h.trans ⟨rfl, rfl, rfl, rfl, rfl⟩
  have hr := hstart.trans (hm.readingKept hsws)
  unfold highPhase
  dsimp only
  split
  · exact hr.trans ⟨rfl, rfl, rfl, rfl, rfl⟩
  · exact ⟨nofun, hr⟩

theorem readingKept_readBit (h : ReadingKept s t) : (readBit t).Keeps (ReadingKept s) :=
  Run.keeps_andThen (Run.keeps_andThen (readingKept_awaitLevel _ _ _ h) fun _ => readingKept_awaitLevel _ _ _)
    fun _ => readingKept_highPhase

theorem readingKept_readBits (n : Nat) (h : ReadingKept s t) : (readBits n t).Keeps (ReadingKept s) := by
  induction n generalizing t with
  | zero => exact h
  | succ n ih => exact Run.keeps_andThen (readingKept_readBit h) fun _ => ih

end

/-- A reading is held, and no response has been given. -/
structure ReadingHeld (s t : State) : Prop where
  valid     : t.sws.valid = true
  responses : t.obs.responses = s.obs.responses

/-- `SW_MEASURE` ends with a reading, or keeps the one there was. -/
theorem swMeasure_post (s : State) :
    (swMeasure s).Post (ReadingHeld s) fun e t => e ≠ .ok ∧ ReadingKept s t := by
  unfold swMeasure
  split
  next hg =>
    rw [gateClosed, Bool.and_eq_true] at hg
    exact ⟨hg.1, rfl⟩
  next =>
    have hpulse : ReadingKept s (startPulse s) := ⟨rfl, rfl, rfl, rfl, rfl⟩
    refine Run.post_andThen (Run.keeps_andThen (Run.keeps_andThen (readingKept_awaitLevel _ _ _ hpulse) ?_) ?_) ?_
    · exact fun _ => readingKept_awaitLevel _ _ _
    · exact fun _ k => readingKept_readBits 40 (k.trans ⟨rfl, rfl, rfl, rfl, rfl⟩)
    · intro m k
      unfold checkAndCommit
      split
      · exact ⟨rfl, k.responses⟩
      · exact ⟨nofun, k⟩

theorem needReading_post (s : State) : (needReading s).Keeps (ReadingKept s) := by
  unfold needReading
  split
  · exact .refl s
  · exact ⟨nofun, .refl s⟩

/-- An accessor keeps `SW_VALID`. -/
theorem needReading_finish_valid (s : State) (p : State → List Byte) :
    ((needReading s).finish .sws p).sws.valid = s.sws.valid := by
  rcases (needReading_post s).finish_cases (u := .sws) (p := p) with ⟨m, k, h⟩ | ⟨e, m, ⟨_, k⟩, h⟩ <;>
    rw [h] <;> exact k.valid

/-- `SW_VALID`: set by a successful `SW_MEASURE`, and else kept. -/
theorem exec_swMeasure_valid {s t : State} (h : exec .swMeasure s = .next t) :
    (t.sws.valid = true ∨ t.sws.valid = s.sws.valid) ∧ (succeeded s t → t.sws.valid = true) := by
  obtain rfl : (swMeasure s).finish .sws noPayload = t := Host.Outcome.next.inj h
  rcases (swMeasure_post s).finish_cases (u := .sws) (p := noPayload) with ⟨m, k, h⟩ | ⟨e, m, ⟨he, k⟩, h⟩ <;> rw [h]
  · exact ⟨.inl k.valid, fun _ => k.valid⟩
  · exact ⟨.inr k.valid, fun hs => absurd hs (not_succeeded_fail .sws he)⟩

theorem valid_of_released {a b : Sws} (h : b = a ∨ b = { a with oe := false }) : b.valid = a.valid := by
  rcases h with rfl | rfl <;> rfl

theorem exec_valid {i : Instr} {s t : State} (h : exec i s = .next t) (hi : i ≠ .swMeasure) :
    t.sws.valid = s.sws.valid := by
  rcases exec_unit_cases h with ⟨hs, _, _⟩ | ⟨_, _, k⟩ | ⟨_, _, k⟩
  · cases i with
    | swMeasure => exact absurd rfl hi
    | swTemperature | swHumidity =>
      cases h
      exact needReading_finish_valid s _
    | _ => exact nomatch hs
  · exact valid_of_released k.sws
  · exact valid_of_released k.sws

/-! ## CBS -/

/-- The unit is not constructed and holds no reading, and no response has been given. -/
structure Unconstructed (s t : State) : Prop where
  ready     : t.cbs.ready = false
  rvalid    : t.cbs.rvalid = false
  responses : t.obs.responses = s.obs.responses

/-- The unit is constructed and holds no reading yet, and no response has been given. -/
structure Constructed (s t : State) : Prop where
  ready     : t.cbs.ready = true
  rvalid    : t.cbs.rvalid = false
  responses : t.obs.responses = s.obs.responses

section
variable {s t : State}

theorem unconstructed_i2cRead (a : BitVec 7) (reg : Byte) (n : Nat) (h : Unconstructed s t) :
    Unconstructed s (i2cRead a reg n t).2 := by
  obtain ⟨_, _, _, hcbs, _, _, _, _, hobs⟩ := i2cRead_frame a reg n t
  constructor <;> simp [hcbs, hobs, h.ready, h.rvalid, h.responses]

theorem unconstructed_i2cWrite (a : BitVec 7) (reg : Byte) (bytes : List Byte) (h : Unconstructed s t) :
    Unconstructed s (i2cWrite a reg bytes t).2 := by
  obtain ⟨_, _, _, hcbs, _, _, _, _, hobs⟩ := i2cWrite_frame a reg bytes t
  constructor <;> simp [hcbs, hobs, h.ready, h.rvalid, h.responses]

theorem unconstructed_cbAt (q : CbSeq) (h : Unconstructed s t) : Unconstructed s (t.cbAt q) :=
  ⟨h.ready, h.rvalid, h.responses⟩

theorem unconstructed_probe (addr : BitVec 7) (second : Bool) (h : Unconstructed s t) :
    Unconstructed s (probe addr second t).2 := unconstructed_i2cRead _ _ _ (unconstructed_cbAt _ h)

theorem unconstructed_cbCalib (found : BitVec 7) (h : Unconstructed s t) :
    (cbCalib found t).Keeps (Unconstructed s) := by
  have hr := unconstructed_i2cRead found t.cfg.cbRegCalib Config.calibLen (unconstructed_cbAt (.calib found) h)
  unfold cbCalib
  dsimp only
  split
  · exact ⟨nofun, hr.ready, hr.rvalid, hr.responses⟩
  · exact ⟨hr.ready, hr.rvalid, hr.responses⟩

theorem unconstructed_cbConfig (found : BitVec 7) (h : Unconstructed s t) :
    (cbConfig found t).Keeps (Unconstructed s) := by
  have hw := unconstructed_i2cWrite found t.cfg.cbRegCtrl [t.cfg.cbCtrlValue] (unconstructed_cbAt (.config found) h)
  unfold cbConfig
  dsimp only
  split
  · exact hw
  · exact ⟨nofun, hw.ready, hw.rvalid, hw.responses⟩

theorem cbBuild_post (found : BitVec 7) (h : Unconstructed s t) :
    (cbBuild found t).Post (Constructed s) fun e u => e ≠ .ok ∧ Unconstructed s u :=
  Run.post_andThen (Run.keeps_andThen (unconstructed_cbCalib found h) fun _ => unconstructed_cbConfig found) fun _ k =>
    ⟨rfl, k.rvalid, k.responses⟩

end

/-- `CB_NEW` constructs the unit, or leaves it not constructed. -/
theorem cbNew_post (addr : BitVec 7) (s : State) :
    (cbNew addr s).Post (Constructed s) fun e t => e ≠ .ok ∧ Unconstructed s t := by
  have hentry : Unconstructed s (cbEntry addr s) := ⟨rfl, rfl, rfl⟩
  have hfirst := unconstructed_probe addr false hentry
  have hsecond := unconstructed_probe addr true hfirst
  unfold cbNew
  dsimp only
  split
  · exact cbBuild_post _ hfirst
  · split
    · exact cbBuild_post _ hsecond
    · exact ⟨nofun, hsecond⟩

/-- `CB_READY` and `CB_RVALID` after `CB_NEW`. -/
theorem exec_cbNew_flags {addr : BitVec 7} {s t : State} (h : exec (.cbNew addr) s = .next t) :
    t.cbs.rvalid = false ∧ (t.cbs.ready = true ↔ succeeded s t) := by
  obtain rfl : (cbNew addr s).finish .cbs noPayload = t := Host.Outcome.next.inj h
  rcases (cbNew_post addr s).finish_cases (u := .cbs) (p := noPayload) with ⟨m, k, h⟩ | ⟨e, m, ⟨he, k⟩, h⟩ <;> rw [h]
  · exact ⟨k.rvalid, iff_of_true k.ready (succeeded_respond .cbs _ k.responses)⟩
  · exact ⟨k.rvalid, iff_of_false (by simp [k.ready]) (not_succeeded_fail .cbs he)⟩

/-- What a construction has written, `CB_READY`, `CB_ADDR` and the coefficients, is as it was. -/
structure SameConstruction (a b : Cbs) : Prop where
  ready : b.ready = a.ready
  addr  : b.addr = a.addr
  coef  : b.coef = a.coef

/-- The construction and `CB_RVALID` are as they were, and no response has been given. -/
structure PairKept (s t : State) : Prop extends SameConstruction s.cbs t.cbs where
  rvalid    : t.cbs.rvalid = s.cbs.rvalid
  responses : t.obs.responses = s.obs.responses

/-- The construction is as it was and a pair is held, and no response has been given. -/
structure PairHeld (s t : State) : Prop extends SameConstruction s.cbs t.cbs where
  rvalid    : t.cbs.rvalid = true
  responses : t.obs.responses = s.obs.responses

theorem PairKept.refl (s : State) : PairKept s s := ⟨⟨rfl, rfl, rfl⟩, rfl, rfl⟩

section
variable {s t : State}

theorem pairKept_cbAt (q : CbSeq) (h : PairKept s t) : PairKept s (t.cbAt q) :=
  ⟨⟨h.ready, h.addr, h.coef⟩, h.rvalid, h.responses⟩

theorem pairKept_i2cRead (a : BitVec 7) (reg : Byte) (n : Nat) (h : PairKept s t) : PairKept s (i2cRead a reg n t).2 := by
  obtain ⟨_, _, _, hcbs, _, _, _, _, hobs⟩ := i2cRead_frame a reg n t
  refine ⟨⟨?_, ?_, ?_⟩, ?_, ?_⟩ <;> simp [hcbs, hobs, h.ready, h.addr, h.coef, h.responses, h.rvalid]

theorem pairKept_cbCheck (h : PairKept s t) : (cbCheck t).Keeps (PairKept s) := by
  unfold cbCheck
  split
  · exact pairKept_cbAt _ h
  · exact ⟨nofun, h⟩

theorem pairKept_cbReadT (h : PairKept s t) : (cbReadT t).Keeps (PairKept s) := by
  have hr := pairKept_i2cRead t.cbs.addr t.cfg.cbRegTemp 3 (pairKept_cbAt .rdT h)
  unfold cbReadT
  dsimp only
  split
  · exact ⟨nofun, hr⟩
  · exact ⟨⟨hr.ready, hr.addr, hr.coef⟩, hr.rvalid, hr.responses⟩

theorem pairKept_cbReadP (h : PairKept s t) : (cbReadP t).Keeps (PairKept s) := by
  have hr := pairKept_i2cRead t.cbs.addr t.cfg.cbRegPress 3 (pairKept_cbAt .rdP h)
  unfold cbReadP
  dsimp only
  split
  · exact ⟨nofun, hr⟩
  · exact ⟨⟨hr.ready, hr.addr, hr.coef⟩, hr.rvalid, hr.responses⟩

theorem cbCompP_post (h : PairKept s t) : (cbCompP t).Post (PairHeld s) fun e u => e ≠ .ok ∧ PairKept s u := by
  unfold cbCompP
  split
  · exact ⟨nofun, pairKept_cbAt _ h⟩
  · exact ⟨⟨h.ready, h.addr, h.coef⟩, rfl, h.responses⟩

end

/-- `CB_READ` ends with a pair, or keeps what there was; the construction stays either way. -/
theorem cbRead_post (s : State) : (cbRead s).Post (PairHeld s) fun e t => e ≠ .ok ∧ PairKept s t := by
  refine Run.post_andThen (Run.keeps_andThen (Run.keeps_andThen (pairKept_cbCheck (.refl s)) ?_) ?_) ?_
  · exact fun _ => pairKept_cbReadT
  · exact fun _ => pairKept_cbReadP
  · exact fun _ k => cbCompP_post ⟨⟨k.ready, k.addr, k.coef⟩, k.rvalid, k.responses⟩

theorem cbAltitude_post (p0 : Word) (s : State) : (cbAltitude p0 s).Keeps (PairKept s) := by
  unfold cbAltitude
  split
  · exact ⟨nofun, .refl s⟩
  · exact .refl s

/-- `CB_READ` keeps the construction and sets `CB_RVALID` where it succeeds. -/
theorem exec_cbRead_flags {s t : State} (h : exec .cbRead s = .next t) :
    SameConstruction s.cbs t.cbs ∧ (t.cbs.rvalid = true ∨ t.cbs.rvalid = s.cbs.rvalid)
      ∧ (succeeded s t → t.cbs.rvalid = true) := by
  obtain rfl : (cbRead s).finish .cbs readPayload = t := Host.Outcome.next.inj h
  rcases (cbRead_post s).finish_cases (u := .cbs) (p := readPayload) with ⟨m, k, h⟩ | ⟨e, m, ⟨he, k⟩, h⟩ <;> rw [h]
  · exact ⟨⟨k.ready, k.addr, k.coef⟩, .inl k.rvalid, fun _ => k.rvalid⟩
  · exact ⟨⟨k.ready, k.addr, k.coef⟩, .inr k.rvalid, fun hs => absurd hs (not_succeeded_fail .cbs he)⟩

theorem exec_cbAltitude_flags {p p0 : Word} {s t : State} (h : exec (.cbAltitude p p0) s = .next t) :
    SameConstruction s.cbs t.cbs ∧ t.cbs.rvalid = s.cbs.rvalid := by
  cases h
  rcases (cbAltitude_post p0 s).finish_cases (u := .cbs) (p := fun s => bytes32 (altFn s.cfg p p0)) with
    ⟨m, k, h⟩ | ⟨e, m, ⟨_, k⟩, h⟩ <;> rw [h]
  · exact ⟨⟨k.ready, k.addr, k.coef⟩, k.rvalid⟩
  · exact ⟨⟨k.ready, k.addr, k.coef⟩, k.rvalid⟩

/-- No instruction but `CB_NEW` writes the construction, and of the others none but `CB_READ` writes `CB_RVALID`. -/
theorem exec_construction {i : Instr} {s t : State} (h : exec i s = .next t) (hi : ∀ addr, i ≠ .cbNew addr) :
    SameConstruction s.cbs t.cbs ∧ (i ≠ .cbRead → t.cbs.rvalid = s.cbs.rvalid) := by
  have same : t.cbs = s.cbs → SameConstruction s.cbs t.cbs ∧ (i ≠ .cbRead → t.cbs.rvalid = s.cbs.rvalid) := fun hc => by
    rw [hc]
    exact ⟨⟨rfl, rfl, rfl⟩, fun _ => rfl⟩
  rcases exec_unit_cases h with ⟨_, _, k⟩ | ⟨_, hc, _⟩ | ⟨_, _, k⟩
  · exact same k.cbs
  · cases i with
    | cbNew addr => exact absurd rfl (hi addr)
    | cbRead => exact ⟨(exec_cbRead_flags h).1, fun hne => absurd rfl hne⟩
    | cbAltitude p p0 => exact ⟨(exec_cbAltitude_flags h).1, fun _ => (exec_cbAltitude_flags h).2⟩
    | _ => exact nomatch hc
  · exact same k.cbs

/-! ## DSP -/

/-- A window has been opened or, where `opened` is false, `DS_STREAM` is as it was; `DS_READY` is as it was, and no response has
been given. -/
structure Streamed (opened : Bool) (s t : State) : Prop where
  cfg       : t.cfg = s.cfg
  ready     : t.dsp.ready = s.dsp.ready
  responses : t.obs.responses = s.obs.responses
  stream    : t.dsp.stream = (opened || s.dsp.stream)

/-- How a statement of DSP fails: a transfer that failed has dropped the stream (`42_display.md` R200); any other error leaves it,
or leaves the window that an operation which `may` open one has opened before. -/
inductive DisplayError (may : Bool) (s : State) : Status → State → Prop
  | bus {t : State} (ready : t.dsp.ready = s.dsp.ready) (responses : t.obs.responses = s.obs.responses)
      (dropped : t.dsp.stream = false) : DisplayError may s .busError t
  | refused {e : Status} {t : State} (opened : Bool) (hok : e ≠ .ok) (hbus : e ≠ .busError)
      (hmay : opened = true → may = true) (h : Streamed opened s t) : DisplayError may s e t

theorem Streamed.refl (s : State) : Streamed false s s := ⟨rfl, rfl, rfl, rfl⟩

section
variable {opened may : Bool} {s t : State}

theorem streamed_transfer {r : Run} {e f : Event} {dc : Bool} (h : Streamed opened s t)
    (hr : (∃ u, r = .ok u ∧ Transferred e dc t u) ∨ ∃ u, r = .err .busError (dropStream u) ∧ Transferred f dc t u) :
    r.Post (Streamed opened s) (DisplayError may s) := by
  rcases hr with ⟨u, rfl, k⟩ | ⟨u, rfl, k⟩
  · exact ⟨k.cfg.trans h.cfg, by simp [k.dsp, h.ready], by simp [k.obs, h.responses], by simp [k.dsp, h.stream]⟩
  · exact .bus (by simp [dropStream, k.dsp, h.ready]) (by simp [dropStream, k.obs, h.responses]) rfl

theorem streamed_dsCmd (b : Byte) (h : Streamed opened s t) :
    (dsCmd b t).Post (Streamed opened s) (DisplayError may s) := streamed_transfer h (dsCmd_cases b t)

theorem streamed_dsData (bytes : List Byte) (h : Streamed opened s t) :
    (dsData bytes t).Post (Streamed opened s) (DisplayError may s) := streamed_transfer h (dsData_cases bytes t)

theorem streamed_sendInit (k : Fin 16) (h : Streamed opened s t) :
    (sendInit k t).Post (Streamed opened s) (DisplayError may s) := by
  refine Run.post_andThen (P := Streamed opened s) (Run.post_andThen (streamed_dsCmd _ h) fun m hm => ?_) fun _ hm =>
    ⟨hm.cfg, hm.ready, hm.responses, hm.stream⟩
  split
  · exact hm
  · exact streamed_dsData _ hm

theorem streamed_sendCaset (x0 x1 : Half) (h : Streamed opened s t) :
    (sendCaset x0 x1 t).Post (Streamed opened s) (DisplayError may s) :=
  Run.post_andThen (streamed_dsCmd _ h) fun _ => streamed_dsData _

theorem streamed_sendRaset (y0 y1 : Half) (h : Streamed opened s t) :
    (sendRaset y0 y1 t).Post (Streamed opened s) (DisplayError may s) :=
  Run.post_andThen (streamed_dsCmd _ h) fun _ => streamed_dsData _

/-- The window encoder opens the window. -/
theorem streamed_setWindow (x0 y0 x1 y1 : Half) (h : Streamed opened s t) :
    (setWindow x0 y0 x1 y1 t).Post (Streamed true s) (DisplayError may s) :=
  Run.post_andThen (Run.post_andThen (Run.post_andThen (streamed_sendCaset _ _ h) fun _ => streamed_sendRaset _ _)
    fun _ => streamed_dsCmd _) fun _ k => ⟨k.cfg, k.ready, k.responses, rfl⟩

theorem streamed_initLoop (ks : List (Fin 16)) (h : Streamed opened s t) :
    (initLoop ks t).Post (Streamed opened s) (DisplayError may s) := by
  induction ks generalizing t with
  | nil => exact h
  | cons k ks ih =>
    exact Run.post_andThen (streamed_sendInit k ⟨h.cfg, h.ready, h.responses, h.stream⟩) fun _ => ih

theorem streamed_streamChunk (n : Nat) (h : Streamed opened s t) :
    (streamChunk n t).Post (Streamed opened s) (DisplayError may s) :=
  Run.post_andThen (streamed_dsData _ ⟨h.cfg, h.ready, h.responses, h.stream⟩) fun _ k =>
    ⟨k.cfg, k.ready, k.responses, k.stream⟩

theorem streamed_streamChunks (m n : Nat) (h : Streamed opened s t) :
    (streamChunks m n t).Post (Streamed opened s) (DisplayError may s) := by
  induction m generalizing n t with
  | zero => exact h
  | succ m ih => exact Run.post_andThen (streamed_streamChunk n h) fun _ => ih _

theorem streamed_fillClamped (x y : Half) (w h : Nat) (color : Half) (ht : Streamed opened s t) :
    (fillClamped x y w h color t).Post (Streamed true s) (DisplayError may s) :=
  Run.post_andThen (streamed_setWindow _ _ _ _ ⟨ht.cfg, ht.ready, ht.responses, ht.stream⟩) fun _ k =>
    streamed_streamChunks _ _ ⟨k.cfg, k.ready, k.responses, k.stream⟩

/-- A pixel opens its window, unless it is off the panel. -/
theorem streamed_pixel (px py : Nat) (c : Half) (h : Streamed opened s t) :
    (pixel px py c t).Post (Streamed true s) (DisplayError true s) := by
  unfold pixel
  dsimp only
  split
  · exact Run.post_andThen (Run.post_andThen (streamed_setWindow _ _ _ _ h) fun _ => streamed_dsData _) fun _ k =>
      ⟨k.cfg, k.ready, k.responses, k.stream⟩
  · exact .refused opened nofun nofun (fun _ => rfl) h

end

/-! ### The glyph rasterizer -/

/-- There is a pixel to write at this position of glyph g. -/
def paints (c : Config) (g : Nat) (hasBg : Bool) (p : Nat × Nat) : Bool := fontBit c g p.1 p.2 || hasBg

/-- There is a pixel to write for this character. -/
def charPaints (c : Config) (hasBg : Bool) (ch : Byte) : Bool :=
  printable ch && scanOrder.any (paints c (glyphIndex ch) hasBg)

section
variable {opened : Bool} {s t : State} (color : Half) (hasBg : Bool) (bg : Half)

theorem streamed_glyphPixel (g : Nat) (p : Nat × Nat) (h : Streamed opened s t) :
    (glyphPixel g color hasBg bg p.1 p.2 t).Post (Streamed (opened || paints s.cfg g hasBg p) s) (DisplayError true s) := by
  have hscan : Streamed opened s (scanAt p.1 p.2 t) := ⟨h.cfg, h.ready, h.responses, h.stream⟩
  unfold glyphPixel paints
  simp only [scanAt_cfg, h.cfg]
  split
  next hf =>
    rw [hf, Bool.true_or, Bool.or_true]
    exact streamed_pixel _ _ _ hscan
  next hf =>
    rw [Bool.not_eq_true] at hf
    rw [hf, Bool.false_or]
    split
    next hb =>
      rw [hb, Bool.or_true]
      exact streamed_pixel _ _ _ hscan
    next hb =>
      rw [Bool.not_eq_true] at hb
      rw [hb, Bool.or_false]
      exact hscan

theorem streamed_drawGlyph (g : Nat) (ps : List (Nat × Nat)) (h : Streamed opened s t) :
    (drawGlyph g color hasBg bg ps t).Post (Streamed (opened || ps.any (paints s.cfg g hasBg)) s) (DisplayError true s) := by
  induction ps generalizing opened t with
  | nil =>
    rw [List.any_nil, Bool.or_false]
    exact h
  | cons p ps ih =>
    rw [List.any_cons, ← Bool.or_assoc]
    exact Run.post_andThen (streamed_glyphPixel color hasBg bg g p h) fun _ => ih

theorem streamed_advanceCursor (h : Streamed opened s t) : Streamed opened s (advanceCursor t) := by
  have hdsp : (advanceCursor t).dsp.ready = t.dsp.ready ∧ (advanceCursor t).dsp.stream = t.dsp.stream := by
    unfold advanceCursor
    dsimp only
    split <;> exact ⟨rfl, rfl⟩
  exact ⟨by simp [h.cfg], hdsp.1.trans h.ready, by simp [h.responses], hdsp.2.trans h.stream⟩

theorem streamed_drawChar (ch : Byte) (h : Streamed opened s t) :
    (drawChar color hasBg bg ch t).Post (Streamed (opened || charPaints s.cfg hasBg ch) s) (DisplayError true s) := by
  unfold drawChar charPaints
  split
  next hp =>
    rw [hp, Bool.true_and]
    exact Run.post_andThen (streamed_drawGlyph color hasBg bg _ _ h) fun _ => streamed_advanceCursor
  next hp =>
    rw [Bool.not_eq_true] at hp
    rw [hp, Bool.false_and, Bool.or_false]
    exact h

theorem streamed_drawChars (text : List Byte) (h : Streamed opened s t) :
    (drawChars color hasBg bg text t).Post (Streamed (opened || text.any (charPaints s.cfg hasBg)) s)
      (DisplayError true s) := by
  induction text generalizing opened t with
  | nil =>
    rw [List.any_nil, Bool.or_false]
    exact h
  | cons ch rest ih =>
    rw [List.any_cons, ← Bool.or_assoc]
    exact Run.post_andThen (streamed_drawChar color hasBg bg ch h) fun _ => ih

end

/-- A glyph with no pixel to write makes no pixel call, wherever its cell is. -/
theorem glyphCalls_eq_nil {c : Config} {g : Nat} {hasBg : Bool} (h : scanOrder.any (paints c g hasBg) = false)
    (cx cy : Nat) (color bg : Half) : glyphCalls c g cx cy color hasBg bg = [] := by
  simp only [scanOrder, List.any_flatMap, List.any_map, List.any_eq_false, Bool.not_eq_true, Function.comp_apply, paints,
    Bool.or_eq_false_iff] at h
  simp only [glyphCalls, List.flatMap_eq_nil_iff]
  intro row hrow col hcol
  obtain ⟨hfont, hbg⟩ := h row hrow col hcol
  simp [hfont, hbg]

/-- Neither does a text of such characters. -/
theorem textCalls_eq_nil {c : Config} {hasBg : Bool} {text : List Byte} (h : text.any (charPaints c hasBg) = false)
    (ox cx cy : Nat) (color bg : Half) : textCalls c ox color hasBg bg cx cy text = [] := by
  induction text generalizing cx cy with
  | nil => rfl
  | cons ch rest ih =>
    rw [List.any_cons, Bool.or_eq_false_iff] at h
    obtain ⟨hch, hrest⟩ := h
    unfold textCalls
    split
    next hp =>
      have hpr : printable ch = true := decide_eq_true hp
      rw [charPaints, hpr, Bool.true_and] at hch
      rw [ih hrest, List.append_nil]
      exact glyphCalls_eq_nil hch cx cy color bg
    next => exact ih hrest cx cy

/-! ### The instructions of DSP -/

/-- This instruction opens a window if it succeeds. -/
def opensWindow (c : Config) : Instr → Bool
  | .dsSetWindow _ _ _ _ | .dsPixel _ _ _ => true
  | .dsFillRect x y w h _ => !rectEmpty c x y w h
  | .dsDrawText _ _ _ hasBg _ text => text.any (charPaints c hasBg)
  | _ => false

/-- This instruction may open a window. -/
def mayOpen : Instr → Bool
  | .dsSetWindow _ _ _ _ | .dsPixel _ _ _ | .dsFillRect _ _ _ _ _ | .dsDrawText _ _ _ _ _ _ => true
  | _ => false

/-- The instructions of `10_state.md` R43's table that set a window do open it. -/
theorem opensWindow_of_setsWindow {c : Config} {i : Instr} (h : setsWindow c i) : opensWindow c i = true := by
  cases i with
  | dsSetWindow | dsPixel => rfl
  | dsFillRect x y w h' color =>
    obtain ⟨hw, hh, hx, hy⟩ := h
    have hvisible : ¬ (w = 0 ∨ h' = 0 ∨ c.panelW ≤ x.toNat ∨ c.panelH ≤ y.toNat) := by
      rintro (hz | hz | hz | hz)
      · exact hw hz
      · exact hh hz
      · omega
      · omega
    rw [opensWindow, rectEmpty, decide_eq_false hvisible, Bool.not_false]
  | dsDrawText x y color hasBg bg text =>
    by_contra hn
    exact h (textCalls_eq_nil (Bool.not_eq_true _ ▸ hn) _ _ _ _ _)
  | _ => exact h.elim

theorem mayOpen_of_opensWindow {c : Config} {i : Instr} (h : opensWindow c i = true) : mayOpen i = true := by
  cases i with
  | dsSetWindow | dsPixel | dsFillRect | dsDrawText => rfl
  | _ => exact nomatch h

theorem window_of_mayOpen {i : Instr} (h : mayOpen i = true) :
    (∃ x0 y0 x1 y1, i = .dsSetWindow x0 y0 x1 y1) ∨ (∃ x y w h c, i = .dsFillRect x y w h c)
      ∨ (∃ x y c, i = .dsPixel x y c) ∨ ∃ x y c hb bg text, i = .dsDrawText x y c hb bg text := by
  cases i with
  | dsSetWindow x0 y0 x1 y1 => exact .inl ⟨x0, y0, x1, y1, rfl⟩
  | dsFillRect x y w k c => exact .inr (.inl ⟨x, y, w, k, c, rfl⟩)
  | dsPixel x y c => exact .inr (.inr (.inl ⟨x, y, c, rfl⟩))
  | dsDrawText x y c hb bg text => exact .inr (.inr (.inr ⟨x, y, c, hb, bg, text, rfl⟩))
  | _ => exact nomatch h

/-- Only display instructions may open a window. -/
theorem unit_of_mayOpen {i : Instr} (h : mayOpen i = true) : isSws i = false ∧ isCbs i = false ∧ i ≠ .dsNew := by
  cases i with
  | dsSetWindow | dsFillRect | dsPixel | dsDrawText => exact ⟨rfl, rfl, nofun⟩
  | _ => exact nomatch h

theorem streamed_needDisplay_andThen {may opened : Bool} {s : State} {f : State → Run}
    (hf : (f s).Post (Streamed opened s) (DisplayError may s)) :
    ((needDisplay s).andThen f).Post (Streamed opened s) (DisplayError may s) := by
  unfold needDisplay
  split
  · exact hf
  · exact .refused false nofun nofun nofun (.refl s)

theorem streamed_dsSetWindow (x0 y0 x1 y1 : Half) (s : State) :
    (dsSetWindow x0 y0 x1 y1 s).Post (Streamed true s) (DisplayError true s) := by
  refine streamed_needDisplay_andThen ?_
  split
  · exact streamed_setWindow _ _ _ _ (.refl s)
  · exact .refused false nofun nofun nofun (.refl s)

theorem streamed_dsPush (color : Half) (s : State) :
    (dsPush color s).Post (Streamed false s) (DisplayError false s) := by
  refine streamed_needDisplay_andThen ?_
  split
  · exact Run.post_andThen (streamed_dsData _ (.refl s)) fun _ k => ⟨k.cfg, k.ready, k.responses, k.stream⟩
  · exact .refused false nofun nofun nofun (.refl s)

theorem streamed_dsFillRect (x y w h color : Half) (s : State) :
    (dsFillRect x y w h color s).Post (Streamed (!rectEmpty s.cfg x y w h) s) (DisplayError true s) := by
  refine streamed_needDisplay_andThen ?_
  split
  next he =>
    rw [he]
    exact ⟨rfl, rfl, rfl, rfl⟩
  next he =>
    rw [Bool.not_eq_true] at he
    rw [he]
    exact streamed_fillClamped _ _ _ _ _ (.refl s)

theorem streamed_dsDrawText (x y color : Half) (hasBg : Bool) (bg : Half) (text : List Byte) (s : State) :
    (dsDrawText x y color hasBg bg text s).Post (Streamed (text.any (charPaints s.cfg hasBg)) s) (DisplayError true s) :=
  streamed_needDisplay_andThen <| by
    have h := streamed_drawChars (opened := false) (s := s) (t := homeCursor x y s) color hasBg bg text ⟨rfl, rfl, rfl, rfl⟩
    rwa [Bool.false_or] at h

/-- Every instruction of DSP but `DS_NEW` runs statements that open a window or leave the stream, and ends as an operation or as a
statement of one. -/
theorem exec_streamed {i : Instr} (hs : isSws i = false) (hc : isCbs i = false) (hn : i ≠ .dsNew) (s : State) :
    ∃ r : Run, r.Post (Streamed (opensWindow s.cfg i) s) (DisplayError (mayOpen i) s)
      ∧ (exec i s = .next (r.finish .dsp noPayload) ∨ exec i s = .next r.statement) := by
  cases i with
  | swMeasure | swTemperature | swHumidity => exact nomatch hs
  | cbNew | cbRead | cbAltitude => exact nomatch hc
  | dsNew => exact absurd rfl hn
  | dsSetWindow => exact ⟨_, streamed_dsSetWindow _ _ _ _ s, .inl rfl⟩
  | dsFillRect => exact ⟨_, streamed_dsFillRect _ _ _ _ _ s, .inl rfl⟩
  | dsPixel => exact ⟨_, streamed_needDisplay_andThen (streamed_pixel _ _ _ (.refl s)), .inl rfl⟩
  | dsDrawText => exact ⟨_, streamed_dsDrawText _ _ _ _ _ _ s, .inl rfl⟩
  | dsPush => exact ⟨_, streamed_dsPush _ s, .inl rfl⟩
  | dsOpSwreset | dsOpSlpout | dsOpMadctl | dsOpColmod | dsOpPorctrl | dsOpGctrl | dsOpVcoms | dsOpLcmctrl
  | dsOpPwr1 | dsOpPwr2 | dsOpPwr3 | dsOpFrctrl | dsOpPvgam | dsOpNvgam | dsOpInvon | dsOpDispon =>
    exact ⟨_, streamed_sendInit _ (.refl s), .inr rfl⟩
  | dsOpCaset => exact ⟨_, streamed_sendCaset _ _ (.refl s), .inr rfl⟩
  | dsOpRaset => exact ⟨_, streamed_sendRaset _ _ (.refl s), .inr rfl⟩
  | dsOpRamwr => exact ⟨_, streamed_dsCmd _ (.refl s), .inr rfl⟩

/-- How a display instruction other than `DS_NEW` ends. -/
inductive DisplayEnd (opens may : Bool) (s t : State) : Prop
  | done (given : List (List Byte)) (hgiven : given = [] ∨ given = [[0]])
      (responses : t.obs.responses = given ++ s.obs.responses) (stream : t.dsp.stream = (opens || s.dsp.stream))
  | busError (responses : t.obs.responses = [4] :: s.obs.responses) (dropped : t.dsp.stream = false)
  | refused (code : Byte) (hok : code ≠ 0) (hbus : code ≠ 4) (responses : t.obs.responses = [code] :: s.obs.responses)
      (opened : Bool) (hmay : opened = true → may = true) (stream : t.dsp.stream = (opened || s.dsp.stream))

theorem DisplayError.fail {may opens : Bool} {s m : State} {e : Status} (h : DisplayError may s e m) :
    (m.fail .dsp e).dsp.ready = s.dsp.ready ∧ DisplayEnd opens may s (m.fail .dsp e) := by
  cases h with
  | bus ready responses dropped => exact ⟨ready, .busError (by rw [fail_responses, responses]; rfl) dropped⟩
  | refused opened hok hbus hmay k =>
    exact ⟨k.ready, .refused e.code (mt Status.code_eq_zero.mp hok) (mt Status.code_eq_four.mp hbus)
      (by rw [fail_responses, k.responses]) opened hmay k.stream⟩

theorem exec_displayEnd {i : Instr} {s t : State} (hs : isSws i = false) (hc : isCbs i = false) (hn : i ≠ .dsNew)
    (h : exec i s = .next t) : t.dsp.ready = s.dsp.ready ∧ DisplayEnd (opensWindow s.cfg i) (mayOpen i) s t := by
  obtain ⟨r, hr, he | he⟩ := exec_streamed hs hc hn s
  · obtain rfl : t = r.finish .dsp noPayload := Host.Outcome.next.inj (h.symm.trans he)
    cases r with
    | ok m => exact ⟨hr.ready, .done [[0]] (.inr rfl) (congrArg _ hr.responses) hr.stream⟩
    | err e m => exact DisplayError.fail hr
  · obtain rfl : t = r.statement := Host.Outcome.next.inj (h.symm.trans he)
    cases r with
    | ok m => exact ⟨hr.ready, .done [] (.inl rfl) hr.responses hr.stream⟩
    | err e m => exact DisplayError.fail hr

section
variable {opens may : Bool} {s t : State}

theorem DisplayEnd.may_of_opened (k : DisplayEnd opens may s t) (hm : opens = true → may = true)
    (ht : t.dsp.stream = true) (hs : s.dsp.stream = false) : may = true := by
  cases k with
  | done _ _ _ stream => exact hm (by rwa [ht, hs, Bool.or_false, eq_comm] at stream)
  | busError _ dropped => rw [ht] at dropped; exact nomatch dropped
  | refused _ _ _ _ opened hmay stream => exact hmay (by rwa [ht, hs, Bool.or_false, eq_comm] at stream)

theorem DisplayEnd.busError_of_dropped (k : DisplayEnd opens may s t) (ht : t.dsp.stream = false)
    (hs : s.dsp.stream = true) : t.obs.responses = [4] :: s.obs.responses := by
  cases k with
  | done _ _ _ stream => rw [ht, hs, Bool.or_true] at stream; exact nomatch stream
  | busError responses _ => exact responses
  | refused _ _ _ _ _ _ stream => rw [ht, hs, Bool.or_true] at stream; exact nomatch stream

theorem DisplayEnd.stream_of_succeeded (k : DisplayEnd opens may s t) (ho : opens = true) (hs : succeeded s t) :
    t.dsp.stream = true := by
  obtain ⟨p, hp⟩ := hs
  cases k with
  | done _ _ _ stream => rw [stream, ho, Bool.true_or]
  | busError responses _ => simp [responses] at hp
  | refused code hok _ responses =>
    rw [responses] at hp
    injection hp with hcode
    injection hcode with hcode
    exact absurd hcode hok

theorem DisplayEnd.dropped_of_busError (k : DisplayEnd opens may s t)
    (hr : t.obs.responses = [4] :: s.obs.responses) : t.dsp.stream = false := by
  cases k with
  | done given hgiven responses _ => rcases hgiven with rfl | rfl <;> simp [responses] at hr
  | busError _ dropped => exact dropped
  | refused code _ hbus responses =>
    rw [responses] at hr
    injection hr with hcode
    injection hcode with hcode
    exact absurd hcode hbus

end

/-! ### DS_NEW -/

/-- `DS_NEW` has not made the display ready: no stream, no response. -/
structure Undisplayed (s t : State) : Prop where
  ready     : t.dsp.ready = false
  stream    : t.dsp.stream = false
  responses : t.obs.responses = s.obs.responses

/-- `DS_NEW` has made the display ready. -/
structure Displayed (s t : State) : Prop where
  ready     : t.dsp.ready = true
  stream    : t.dsp.stream = false
  responses : t.obs.responses = s.obs.responses

theorem backlightOn_stream (s : State) : (backlightOn s).dsp.stream = s.dsp.stream := by
  unfold backlightOn
  split <;> rfl

theorem backlightOn_responses (s : State) : (backlightOn s).obs.responses = s.obs.responses := by
  unfold backlightOn
  split <;> rfl

theorem dsNew_post (s : State) : (dsNew s).Post (Displayed s) fun e t => e ≠ .ok ∧ Undisplayed s t := by
  have hreset : Streamed false (dsEntry s) (hardReset (dsEntry s)) := ⟨rfl, rfl, rfl, rfl⟩
  have hinit := streamed_initLoop (may := false) (List.finRange 16) hreset
  refine Run.post_andThen (hinit.mono (fun _ k => k) ?_) fun m k => ?_
  · intro e m k
    cases k with
    | bus ready responses dropped => exact ⟨nofun, ready, dropped, responses⟩
    | refused opened hok _ hmay k =>
      cases opened with
      | false => exact ⟨hok, k.ready, k.stream, k.responses⟩
      | true => exact nomatch hmay rfl
  · exact ⟨rfl, (backlightOn_stream m).trans k.stream, (backlightOn_responses m).trans k.responses⟩

/-- `DS_READY` and `DS_STREAM` after `DS_NEW`. -/
theorem exec_dsNew_flags {s t : State} (h : exec .dsNew s = .next t) :
    t.dsp.stream = false ∧ (t.dsp.ready = true ↔ succeeded s t) := by
  obtain rfl : (dsNew s).finish .dsp noPayload = t := Host.Outcome.next.inj h
  rcases (dsNew_post s).finish_cases (u := .dsp) (p := noPayload) with ⟨m, k, h⟩ | ⟨e, m, ⟨he, k⟩, h⟩ <;> rw [h]
  · exact ⟨k.stream, iff_of_true k.ready (succeeded_respond .dsp _ k.responses)⟩
  · exact ⟨k.stream, iff_of_false (by simp [k.ready]) (not_succeeded_fail .dsp he)⟩

/-- An instruction is `DS_NEW`, or leaves the display's registers as another unit's does, or ends as the other display
instructions do. -/
theorem exec_display_cases {i : Instr} {s t : State} (h : exec i s = .next t) :
    i = .dsNew ∨ t.dsp = s.dsp
      ∨ t.dsp.ready = s.dsp.ready ∧ DisplayEnd (opensWindow s.cfg i) (mayOpen i) s t := by
  rcases exec_unit_cases h with ⟨_, _, k⟩ | ⟨_, _, k⟩ | ⟨hs, hc, _⟩
  · exact .inr (.inl k.dsp)
  · exact .inr (.inl k.dsp)
  · by_cases hn : i = .dsNew
    · exact .inl hn
    · exact .inr (.inr (exec_displayEnd hs hc hn h))

section
variable {i : Instr} {s t : State}

/-- `DS_READY` is written by `DS_NEW` alone. -/
theorem exec_dsReady (h : exec i s = .next t) (hi : i ≠ .dsNew) : t.dsp.ready = s.dsp.ready := by
  rcases exec_display_cases h with hn | hd | ⟨hr, _⟩
  · exact absurd hn hi
  · rw [hd]
  · exact hr

/-- `DS_STREAM` is set by the instructions that may open a window alone. -/
theorem mayOpen_of_exec (h : exec i s = .next t) (ht : t.dsp.stream = true) (hs : s.dsp.stream = false) :
    mayOpen i = true := by
  rcases exec_display_cases h with rfl | hd | ⟨_, k⟩
  · exact nomatch ht.symm.trans (exec_dsNew_flags h).1
  · exact nomatch (hd ▸ ht).symm.trans hs
  · exact k.may_of_opened mayOpen_of_opensWindow ht hs

/-- It is cleared by `DS_NEW` and by a `BusError` alone. -/
theorem busError_of_exec (h : exec i s = .next t) (ht : t.dsp.stream = false) (hs : s.dsp.stream = true) :
    i = .dsNew ∨ t.obs.responses = [4] :: s.obs.responses := by
  rcases exec_display_cases h with hn | hd | ⟨_, k⟩
  · exact .inl hn
  · exact nomatch (hd ▸ ht).symm.trans hs
  · exact .inr (k.busError_of_dropped ht hs)

theorem exec_stream_of_opensWindow (h : exec i s = .next t) (ho : opensWindow s.cfg i = true) (hs : succeeded s t) :
    t.dsp.stream = true := by
  obtain ⟨hsws, hcbs, hn⟩ := unit_of_mayOpen (mayOpen_of_opensWindow ho)
  exact (exec_displayEnd hsws hcbs hn h).2.stream_of_succeeded ho hs

/-- A display instruction that ends in `BusError` has dropped the stream. -/
theorem exec_stream_of_busError (h : exec i s = .next t) (hs : isSws i = false) (hc : isCbs i = false)
    (hr : t.obs.responses = [4] :: s.obs.responses) : t.dsp.stream = false := by
  by_cases hn : i = .dsNew
  · subst hn
    exact (exec_dsNew_flags h).1
  · exact (exec_displayEnd hs hc hn h).2.dropped_of_busError hr

end

end Sys2Proof.Machine
end

section
/-! The statements of `10_state.md`. -/

namespace Sys2Proof.Proofs

open Sys2Proof.Machine

/-- Settles O20: each register by its reset value. -/
theorem resetHoldsTheStatedValues : Obligations.ResetHoldsTheStatedValues :=
  fun _ => ⟨rfl, rfl, rfl, rfl, rfl, rfl, rfl, rfl, rfl, rfl, rfl, rfl, rfl⟩

/-- Settles O12: what holds at reset under all legal parameters, and the default ones are legal. -/
theorem resetHasTheInvariant : Obligations.ResetHasTheInvariant :=
  ⟨resetWith_inv default_ok, resetWith_busSafe _, resetWith_responsesOk _, default_addressOpsDistinct⟩

/-- Settles O9: the port is empty, so the step is the wire command's. -/
theorem stepRunsTheWireCommandAtItsLabel : Obligations.StepRunsTheWireCommandAtItsLabel := by
  intro s t i hb hsw hp hw he
  rw [step_wire ⟨hb, hsw, hp⟩ hw, he]
  rfl

/-- Settles O15: a step of the idle block is a host's move, one inside an operation a statement; neither writes a parameter. -/
theorem noStepWritesAParameter : Obligations.NoStepWritesAParameter := by
  intro s t h
  cases hb : s.busy with
  | false => exact step_idle_cfg hb h
  | true => exact step_busy_cfg hb h

/-- Settles O44: from `INIT` the sixteen entries, `BL` and `DONE`; from `SetWindow` its three wire commands. -/
theorem operationsAreTheirWireCommands : Obligations.OperationsAreTheirWireCommands := by
  intro s hb hsw hp
  have hs : s.Operating := ⟨hb, hsw, hp⟩
  refine ⟨fun hq => ?_, fun x0 y0 x1 y1 hq => (setWindow_reaches ⟨hs, hq⟩).exists_run hb⟩
  have hr : ReachesWithin 18 (s.dsAt (.init 0)) _ := initLoop_reaches (k := 0) 15 rfl hs
  rw [dsAt_eq_self hq] at hr
  exact hr.exists_run hb

/-- Settles O60: each operation from its first label, by its statements in order. -/
theorem commandsAreTheirStatements : Obligations.CommandsAreTheirStatements := by
  intro s hb hsw hp
  have hs : s.Operating := ⟨hb, hsw, hp⟩
  refine ⟨fun addr hd hq => ?_, fun hd hq => ?_, fun hq => ?_, fun x y w h color hok hready hq => ?_⟩
  · have hr := cbNew_reaches addr ⟨hs, hd⟩
    rw [cbAt_eq_self hq] at hr
    exact hr.exists_run hb
  · have hr := cbRead_reaches ⟨hs, hd⟩
    rw [cbAt_eq_self hq] at hr
    exact hr.exists_run hb
  · have hr := dsNew_reaches hs
    rw [dsAt_eq_self hq] at hr
    exact hr.exists_run hb
  · have hr := dsFillRect_reaches ⟨hs, hq⟩ hready hok.chunkPos
    rw [Nat.add_comm] at hr
    exact hr.exists_run hb

/-- Settles O19: `SW_VALID`, `CB_READY` and `CB_RVALID`, then `DS_READY` and `DS_STREAM`, each by what its unit's operations do to
it where they complete and where they fail. -/
theorem flagsAreWrittenAsTabled : Obligations.FlagsAreWrittenAsTabled := by
  intro i s t h
  refine ⟨fun hne => ?valid, fun hne => ?cbReady, fun hne => ?cbRvalid, fun hne => ?dsReady,
    fun ht hs => window_of_mayOpen (mayOpen_of_exec h ht hs), busError_of_exec h, ?measured, ?constructed, ?read, ?displayed,
    fun hw => exec_stream_of_opensWindow h (opensWindow_of_setsWindow hw), exec_stream_of_busError h⟩
  case valid =>
    obtain rfl : i = .swMeasure := by_contra fun hi => hne (exec_valid h hi)
    exact ⟨rfl, (exec_swMeasure_valid h).1.resolve_right hne⟩
  case cbReady =>
    by_contra hi
    exact hne (exec_construction h (not_exists.mp hi)).1.ready
  case cbRvalid =>
    by_cases hnew : ∃ addr, i = .cbNew addr
    · obtain ⟨addr, rfl⟩ := hnew
      exact .inr ⟨addr, rfl, (exec_cbNew_flags h).1⟩
    · obtain rfl : i = .cbRead := by_contra fun hi => hne ((exec_construction h (not_exists.mp hnew)).2 hi)
      exact .inl ⟨rfl, (exec_cbRead_flags h).2.1.resolve_right hne⟩
  case dsReady => exact by_contra fun hi => hne (exec_dsReady h hi)
  case measured =>
    rintro rfl
    exact (exec_swMeasure_valid h).2
  case constructed =>
    rintro addr rfl
    exact exec_cbNew_flags h
  case read =>
    rintro rfl
    exact (exec_cbRead_flags h).2.2
  case displayed =>
    rintro rfl
    exact exec_dsNew_flags h

/-- Settles O34: of the instructions of CBS only `CB_NEW` writes the construction, and no other unit's writes CBS at all. -/
theorem onlyConstructionWritesCoefficients : Obligations.OnlyConstructionWritesCoefficients := by
  intro i s t hi h
  obtain ⟨k, _⟩ := exec_construction h hi
  exact ⟨k.coef, k.addr⟩

end Sys2Proof.Proofs
end

section
/-! The idle block while no packet is presented: the host's moves that only let ticks pass. -/

namespace Sys2Proof.Machine

/-- A step of the idle block is a move of the host. -/
theorem step_of_idle {s : State} (hb : s.busy = false) : step s = stepIdle s := by
  unfold step
  rw [hb]
  rfl

theorem stepIdle_wait {s : State} {n : Nat} {rest : List HostMove} (hp : s.env.port = .wait n :: rest) :
    stepIdle s = .next ((s.withPort rest).tickBy n) := by
  unfold stepIdle
  rw [hp]

theorem stepIdle_noMove {s : State} (hp : s.env.port = []) : stepIdle s = .next (s.tickBy 1) := by
  unfold stepIdle
  rw [hp]

end Sys2Proof.Machine
end

section
/-! The statements of `20_memory.md`. -/

namespace Sys2Proof.Proofs

open Sys2Proof.Machine

/-- Settles O8: a wait moves the clock and uses up the move; an empty port moves the clock by one tick. -/
theorem stepLetsTicksPass : Obligations.StepLetsTicksPass := by
  intro s hb
  rw [step_of_idle hb]
  exact ⟨fun n moves hp => stepIdle_wait hp, fun hp => stepIdle_noMove hp⟩

end Sys2Proof.Proofs
end

section
/-! The host layer of the encoding: byte order, then each packet format's decoder (what it answers, and which bytes it takes), then the
port's decoder by the opcode. -/

namespace Sys2Proof

open Sys2Proof.Claims

/-! ## Byte order -/

theorem be16_bytes16 (v : Half) : be16 (v.extractLsb' 8 8) (v.extractLsb' 0 8) = v :=
  BitVec.extractLsb'_append_extractLsb' (w := 8) (len := 8)

theorem bytes16_be16 (hi lo : Byte) : bytes16 (be16 hi lo) = [hi, lo] := by
  rw [bytes16, be16, BitVec.extractLsb'_append_eq_left, BitVec.extractLsb'_append_eq_right]

/-- Neighbouring bytes of a word are the 16 bits they span. -/
theorem be16_extractLsb' (v : Word) (k : Nat) :
    be16 (v.extractLsb' (k + 8) 8) (v.extractLsb' k 8) = v.extractLsb' k 16 :=
  BitVec.extractLsb'_append_extractLsb'_eq_extractLsb' rfl

theorem be32_bytes32 (v : Word) :
    be32 (v.extractLsb' 24 8) (v.extractLsb' 16 8) (v.extractLsb' 8 8) (v.extractLsb' 0 8) = v := by
  rw [be32, be16_extractLsb' v 16, be16_extractLsb' v 0]
  exact BitVec.extractLsb'_append_extractLsb' (w := 16) (len := 16)

/-- The bytes of a word are those of its high half and then those of its low half. -/
theorem bytes32_append (hi lo : Half) : bytes32 (hi ++ lo) = bytes16 hi ++ bytes16 lo := by
  have hhi (k : Nat) (h : 16 ≤ k) := BitVec.extractLsb'_append_eq_of_le (xhi := hi) (xlo := lo) (len := 8) h
  have hlo (k : Nat) (h : k + 8 ≤ 16) := BitVec.extractLsb'_append_eq_of_add_le (xhi := hi) (xlo := lo) h
  simp [bytes32, bytes16, hhi 24, hhi 16, hlo 8, hlo 0]

theorem bytes32_be32 (a b c d : Byte) : bytes32 (be32 a b c d) = [a, b, c, d] := by
  rw [be32, bytes32_append, bytes16_be16, bytes16_be16]
  rfl

/-! ## Reserved bits -/

/-- An address byte whose bit 7 is 0 is its low seven bits. -/
theorem setWidth_extractLsb'_of_reserved {a : Byte} : a.getLsbD 7 = false → (a.extractLsb' 0 7).setWidth 8 = a := by
  revert a
  decide

theorem getLsbD_seven_setWidth (addr : BitVec 7) : (addr.setWidth 8).getLsbD 7 = false := by simp

theorem extractLsb'_setWidth_addr (addr : BitVec 7) : (addr.setWidth 8).extractLsb' 0 7 = addr := by
  rw [← BitVec.setWidth_eq_extractLsb' (by omega)]
  simp

/-- The flags byte of format T. -/
def flagsByte (hasBg : Bool) : Byte := if hasBg then 1 else 0

theorem flagsByte_of_reserved {flags : Byte} : flags.extractLsb' 1 7 = 0#7 → flagsByte (flags.getLsbD 0) = flags := by
  revert flags
  decide

theorem flagsByte_reserved (hasBg : Bool) : (flagsByte hasBg).extractLsb' 1 7 = 0#7 := by cases hasBg <;> rfl

theorem flagsByte_getLsbD_zero (hasBg : Bool) : (flagsByte hasBg).getLsbD 0 = hasBg := by cases hasBg <;> rfl

/-- The reserved bits are 0, all at once or one by one. -/
theorem reserved_iff (flags : Byte) : flags.extractLsb' 1 7 = 0#7 ↔ ∀ k, 1 ≤ k → k ≤ 7 → flags.getLsbD k = false := by
  constructor
  · intro h k h1 h7
    have hbit := congrArg (BitVec.getLsbD · (k - 1)) h
    simpa [show k - 1 < 7 by omega, show 1 + (k - 1) = k by omega] using hbit
  · intro h
    refine BitVec.eq_of_getLsbD_eq fun k hk => ?_
    simpa [hk] using h (1 + k) (by omega) (by omega)

/-! ## What each format's decoder answers -/

section
variable {rest : List Byte} {i : Instr}

theorem decodeN_eq_ok {j : Instr} : decodeN j rest = .ok i ↔ rest = [] ∧ i = j := by
  cases rest with
  | nil => simp [decodeN, eq_comm]
  | cons => simp [decodeN]

theorem decodeA_eq_ok {f : BitVec 7 → Instr} :
    decodeA f rest = .ok i ↔ ∃ addr : BitVec 7, rest = [addr.setWidth 8] ∧ i = f addr := by
  constructor
  · intro h
    unfold decodeA at h
    split at h
    · split at h
      · exact nomatch h
      · next hbit =>
        cases h
        exact ⟨_, by rw [setWidth_extractLsb'_of_reserved (Bool.not_eq_true _ ▸ hbit)], rfl⟩
    · exact nomatch h
  · rintro ⟨addr, rfl, rfl⟩
    simp only [decodeA, getLsbD_seven_setWidth, extractLsb'_setWidth_addr, Bool.false_eq_true, if_false]

theorem decodeQ_eq_ok {f : Word → Word → Instr} :
    decodeQ f rest = .ok i ↔ ∃ v w, rest = bytes32 v ++ bytes32 w ∧ i = f v w := by
  constructor
  · intro h
    unfold decodeQ at h
    split at h
    · cases h
      exact ⟨_, _, by rw [bytes32_be32, bytes32_be32]; rfl, rfl⟩
    · exact nomatch h
  · rintro ⟨v, w, rfl, rfl⟩
    simp [decodeQ, bytes32, be32_bytes32]

theorem decodeW_eq_ok {f : Half → Half → Half → Half → Instr} :
    decodeW f rest = .ok i ↔ ∃ u v w x, rest = bytes16 u ++ bytes16 v ++ bytes16 w ++ bytes16 x ∧ i = f u v w x := by
  constructor
  · intro h
    unfold decodeW at h
    split at h
    · cases h
      exact ⟨_, _, _, _, by simp [bytes16_be16], rfl⟩
    · exact nomatch h
  · rintro ⟨u, v, w, x, rfl, rfl⟩
    simp [decodeW, bytes16, be16_bytes16]

theorem decodeR_eq_ok {f : Half → Half → Half → Half → Half → Instr} :
    decodeR f rest = .ok i
      ↔ ∃ u v w x y, rest = bytes16 u ++ bytes16 v ++ bytes16 w ++ bytes16 x ++ bytes16 y ∧ i = f u v w x y := by
  constructor
  · intro h
    unfold decodeR at h
    split at h
    · cases h
      exact ⟨_, _, _, _, _, by simp [bytes16_be16], rfl⟩
    · exact nomatch h
  · rintro ⟨u, v, w, x, y, rfl, rfl⟩
    simp [decodeR, bytes16, be16_bytes16]

theorem decodeP_eq_ok {f : Half → Half → Half → Instr} :
    decodeP f rest = .ok i ↔ ∃ u v w, rest = bytes16 u ++ bytes16 v ++ bytes16 w ∧ i = f u v w := by
  constructor
  · intro h
    unfold decodeP at h
    split at h
    · cases h
      exact ⟨_, _, _, by simp [bytes16_be16], rfl⟩
    · exact nomatch h
  · rintro ⟨u, v, w, rfl, rfl⟩
    simp [decodeP, bytes16, be16_bytes16]

theorem decodeC_eq_ok {f : Half → Instr} : decodeC f rest = .ok i ↔ ∃ u, rest = bytes16 u ∧ i = f u := by
  constructor
  · intro h
    unfold decodeC at h
    split at h
    · cases h
      exact ⟨_, by rw [bytes16_be16], rfl⟩
    · exact nomatch h
  · rintro ⟨u, rfl, rfl⟩
    simp [decodeC, bytes16, be16_bytes16]

/-- The bytes of a packet of format T after its opcode. -/
def textBytes (x y color : Half) (hasBg : Bool) (bg : Half) (text : List Byte) : List Byte :=
  bytes16 x ++ bytes16 y ++ bytes16 color ++ [flagsByte hasBg] ++ bytes16 bg ++ [BitVec.ofNat 8 text.length] ++ text

theorem decodeT_eq_ok {f : Half → Half → Half → Bool → Half → List Byte → Instr} :
    decodeT f rest = .ok i ↔ ∃ x y color hasBg bg text,
      text.length ≤ 255 ∧ rest = textBytes x y color hasBg bg text ∧ i = f x y color hasBg bg text := by
  constructor
  · intro h
    unfold decodeT at h
    split at h
    · next len text =>
      split at h
      · next hlen =>
        split at h
        · next hflags =>
          cases h
          refine ⟨_, _, _, _, _, text, hlen ▸ Nat.le_of_lt_succ len.isLt, ?_, rfl⟩
          rw [textBytes, flagsByte_of_reserved hflags, hlen, BitVec.ofNat_toNat, BitVec.setWidth_eq]
          simp [bytes16_be16]
        · exact nomatch h
      · exact nomatch h
    · exact nomatch h
  · rintro ⟨x, y, color, hasBg, bg, text, hlen, rfl, rfl⟩
    have hmod : text.length % 256 = text.length := Nat.mod_eq_of_lt (by omega)
    simp [-BitVec.getLsbD_eq_getElem, textBytes, decodeT, bytes16, be16_bytes16, flagsByte_reserved,
      flagsByte_getLsbD_zero, hmod]

end

/-! ## Which bytes each format takes -/

section
variable {rest : List Byte}

theorem exists_decodeN {j : Instr} : (∃ i, decodeN j rest = .ok i) ↔ rest.length = 0 := by
  simp [decodeN_eq_ok]

theorem exists_decodeA {f : BitVec 7 → Instr} :
    (∃ i, decodeA f rest = .ok i) ↔ rest.length = 1 ∧ (rest.getD 0 0).getLsbD 7 = false := by
  constructor
  · rintro ⟨i, h⟩
    obtain ⟨addr, rfl, -⟩ := decodeA_eq_ok.mp h
    exact ⟨rfl, getLsbD_seven_setWidth addr⟩
  · rintro ⟨hlen, hbit⟩
    match rest, hlen with
    | [a], _ => exact ⟨_, decodeA_eq_ok.mpr ⟨_, by rw [setWidth_extractLsb'_of_reserved hbit]; rfl, rfl⟩⟩

theorem exists_decodeQ {f : Word → Word → Instr} : (∃ i, decodeQ f rest = .ok i) ↔ rest.length = 8 := by
  constructor
  · rintro ⟨i, h⟩
    obtain ⟨_, _, rfl, -⟩ := decodeQ_eq_ok.mp h
    rfl
  · intro hlen
    match rest, hlen with
    | [_, _, _, _, _, _, _, _], _ => exact ⟨_, rfl⟩

theorem exists_decodeW {f : Half → Half → Half → Half → Instr} : (∃ i, decodeW f rest = .ok i) ↔ rest.length = 8 := by
  constructor
  · rintro ⟨i, h⟩
    obtain ⟨_, _, _, _, rfl, -⟩ := decodeW_eq_ok.mp h
    rfl
  · intro hlen
    match rest, hlen with
    | [_, _, _, _, _, _, _, _], _ => exact ⟨_, rfl⟩

theorem exists_decodeR {f : Half → Half → Half → Half → Half → Instr} :
    (∃ i, decodeR f rest = .ok i) ↔ rest.length = 10 := by
  constructor
  · rintro ⟨i, h⟩
    obtain ⟨_, _, _, _, _, rfl, -⟩ := decodeR_eq_ok.mp h
    rfl
  · intro hlen
    match rest, hlen with
    | [_, _, _, _, _, _, _, _, _, _], _ => exact ⟨_, rfl⟩

theorem exists_decodeP {f : Half → Half → Half → Instr} : (∃ i, decodeP f rest = .ok i) ↔ rest.length = 6 := by
  constructor
  · rintro ⟨i, h⟩
    obtain ⟨_, _, _, rfl, -⟩ := decodeP_eq_ok.mp h
    rfl
  · intro hlen
    match rest, hlen with
    | [_, _, _, _, _, _], _ => exact ⟨_, rfl⟩

theorem exists_decodeC {f : Half → Instr} : (∃ i, decodeC f rest = .ok i) ↔ rest.length = 2 := by
  constructor
  · rintro ⟨i, h⟩
    obtain ⟨_, rfl, -⟩ := decodeC_eq_ok.mp h
    rfl
  · intro hlen
    match rest, hlen with
    | [_, _], _ => exact ⟨_, rfl⟩

theorem exists_decodeT {f : Half → Half → Half → Bool → Half → List Byte → Instr} :
    (∃ i, decodeT f rest = .ok i) ↔ 10 ≤ rest.length ∧ rest.length = 10 + (rest.getD 9 0).toNat
      ∧ ∀ k, 1 ≤ k → k ≤ 7 → (rest.getD 6 0).getLsbD k = false := by
  constructor
  · rintro ⟨i, h⟩
    obtain ⟨x, y, color, hasBg, bg, text, hlen, rfl, -⟩ := decodeT_eq_ok.mp h
    have hmod : text.length % 256 = text.length := Nat.mod_eq_of_lt (by omega)
    refine ⟨?_, ?_, (reserved_iff _).mp (flagsByte_reserved hasBg)⟩
    · simp [textBytes, bytes16]
    · simp [textBytes, bytes16, hmod]
      omega
  · rintro ⟨hten, hlen, hflags⟩
    match rest, hten with
    | _ :: _ :: _ :: _ :: _ :: _ :: flags :: _ :: _ :: len :: text, _ =>
      have htext : text.length = len.toNat := Nat.add_left_cancel (n := 10) (by simpa [Nat.add_comm 10] using hlen)
      exact ⟨_, by rw [decodeT, if_pos htext, if_pos ((reserved_iff flags).mpr hflags)]⟩

end

/-! ## The port's decoder -/

/-- The opcodes of format N (`30_encoding.md` R104). -/
def bareOpcodes : List Byte := [0x10#8, 0x11#8, 0x12#8, 0x21#8, 0x30#8]

/-- The opcodes of the formats with operands. -/
def operandOpcodes : List Byte := [0x20#8, 0x22#8, 0x31#8, 0x32#8, 0x33#8, 0x34#8, 0x35#8]

theorem opcode_cases (op : Byte) :
    op ∈ bareOpcodes ∨ op ∉ bareOpcodes ++ operandOpcodes ∨ op = 0x20#8 ∨ op = 0x22#8 ∨ op = 0x31#8 ∨ op = 0x32#8
      ∨ op = 0x33#8 ∨ op = 0x34#8 ∨ op = 0x35#8 := by
  by_cases hop : op ∈ bareOpcodes ++ operandOpcodes
  · rcases List.mem_append.mp hop with hbare | hoperand
    · exact .inl hbare
    · exact .inr (.inr (by simpa [operandOpcodes] using hoperand))
  · exact .inr (.inl hop)

theorem decode_of_unknown {op : Byte} (h : op ∉ bareOpcodes ++ operandOpcodes) (hasAltitude : Bool) (rest : List Byte) :
    decode hasAltitude (op :: rest) = .illegal .unknownOpcode := by
  simp only [bareOpcodes, operandOpcodes, List.mem_append, List.mem_cons, List.not_mem_nil, or_false, not_or] at h
  simp [decode, h]

/-- Each operation's packet decodes to it, on a block that has the operation. -/
theorem decode_encode {hasAltitude : Bool} {i : Instr} (hc : i.isCommand = true) (hw : i.wellFormed = true)
    (hp : i.present hasAltitude = true) : decode hasAltitude (encode i) = .ok i := by
  cases i with
  | swMeasure | swTemperature | swHumidity | cbRead | dsNew => rfl
  | cbNew addr => exact decodeA_eq_ok.mpr ⟨addr, rfl, rfl⟩
  | cbAltitude p p0 =>
    obtain rfl : hasAltitude = true := hp
    exact decodeQ_eq_ok.mpr ⟨p, p0, rfl, rfl⟩
  | dsSetWindow x0 y0 x1 y1 => exact decodeW_eq_ok.mpr ⟨x0, y0, x1, y1, rfl, rfl⟩
  | dsFillRect x y w h color => exact decodeR_eq_ok.mpr ⟨x, y, w, h, color, rfl, rfl⟩
  | dsPixel x y color => exact decodeP_eq_ok.mpr ⟨x, y, color, rfl, rfl⟩
  | dsDrawText x y color hasBg bg text =>
    exact decodeT_eq_ok.mpr ⟨x, y, color, hasBg, bg, text, of_decide_eq_true hw, rfl, rfl⟩
  | dsPush color => exact decodeC_eq_ok.mpr ⟨color, rfl, rfl⟩
  | _ => exact nomatch hc

/-- `bytes` is the packet of the host command `i`, which is well formed and present. -/
structure IsPacketOf (hasAltitude : Bool) (i : Instr) (bytes : List Byte) : Prop where
  encoded    : encode i = bytes
  isCommand  : i.isCommand = true
  wellFormed : i.wellFormed = true
  present    : i.present hasAltitude = true

/-- An opcode of format N is the packet of its operation, and the port reads it as that format. -/
theorem decode_of_bare {op : Byte} (h : op ∈ bareOpcodes) (hasAltitude : Bool) :
    ∃ j, IsPacketOf hasAltitude j [op] ∧ ∀ rest, decode hasAltitude (op :: rest) = decodeN j rest := by
  simp only [bareOpcodes, List.mem_cons, List.not_mem_nil, or_false] at h
  rcases h with rfl | rfl | rfl | rfl | rfl <;> exact ⟨_, ⟨rfl, rfl, rfl, rfl⟩, fun _ => rfl⟩

/-- What the port decodes is the packet of the command it answers. -/
theorem isPacketOf_of_decode {hasAltitude : Bool} {bytes : List Byte} {i : Instr}
    (h : decode hasAltitude bytes = .ok i) : IsPacketOf hasAltitude i bytes := by
  obtain - | ⟨op, rest⟩ := bytes
  · exact nomatch h
  rcases opcode_cases op with hbare | hunknown | rfl | rfl | rfl | rfl | rfl | rfl | rfl
  · obtain ⟨j, hj, hdecode⟩ := decode_of_bare hbare hasAltitude
    obtain ⟨rfl, rfl⟩ := decodeN_eq_ok.mp ((hdecode rest).symm.trans h)
    exact hj
  · exact nomatch (decode_of_unknown hunknown hasAltitude rest).symm.trans h
  · obtain ⟨addr, rfl, rfl⟩ := decodeA_eq_ok.mp h
    exact ⟨rfl, rfl, rfl, rfl⟩
  · cases hasAltitude with
    | false => exact nomatch h
    | true =>
      obtain ⟨p, p0, rfl, rfl⟩ := decodeQ_eq_ok.mp h
      exact ⟨rfl, rfl, rfl, rfl⟩
  · obtain ⟨x0, y0, x1, y1, rfl, rfl⟩ := decodeW_eq_ok.mp h
    exact ⟨rfl, rfl, rfl, rfl⟩
  · obtain ⟨x, y, w, k, color, rfl, rfl⟩ := decodeR_eq_ok.mp h
    exact ⟨rfl, rfl, rfl, rfl⟩
  · obtain ⟨x, y, color, rfl, rfl⟩ := decodeP_eq_ok.mp h
    exact ⟨rfl, rfl, rfl, rfl⟩
  · obtain ⟨x, y, color, hasBg, bg, text, hlen, rfl, rfl⟩ := decodeT_eq_ok.mp h
    exact ⟨rfl, rfl, decide_eq_true hlen, rfl⟩
  · obtain ⟨color, rfl, rfl⟩ := decodeC_eq_ok.mp h
    exact ⟨rfl, rfl, rfl, rfl⟩

/-- The port decodes a packet exactly where the clauses of `30_encoding.md` R105 hold of it. -/
theorem exists_decode_iff_legalPacket (hasAltitude : Bool) (op : Byte) (rest : List Byte) :
    (∃ i, decode hasAltitude (op :: rest) = .ok i) ↔ legalPacket hasAltitude op rest := by
  rcases opcode_cases op with hbare | hunknown | rfl | rfl | rfl | rfl | rfl | rfl | rfl
  · obtain ⟨j, -, hdecode⟩ := decode_of_bare hbare hasAltitude
    simp only [hdecode, exists_decodeN]
    simp only [bareOpcodes, List.mem_cons, List.not_mem_nil, or_false] at hbare
    rcases hbare with rfl | rfl | rfl | rfl | rfl <;> simp [legalPacket]
  · refine iff_of_false (fun ⟨i, h⟩ => ?_) fun h => hunknown ?_
    · exact nomatch (decode_of_unknown hunknown hasAltitude rest).symm.trans h
    · rcases h with ⟨h, -⟩ | ⟨rfl, -⟩ | ⟨rfl, -⟩ | ⟨rfl, -⟩ | ⟨rfl, -⟩ | ⟨rfl, -⟩ | ⟨rfl, -⟩ | ⟨rfl, -⟩
      · exact List.mem_append_left _ h
      all_goals decide
  · exact exists_decodeA.trans (by simp [legalPacket])
  · cases hasAltitude with
    | false => exact iff_of_false nofun (by simp [legalPacket])
    | true => exact exists_decodeQ.trans (by simp [legalPacket])
  · exact exists_decodeW.trans (by simp [legalPacket])
  · exact exists_decodeR.trans (by simp [legalPacket])
  · exact exists_decodeP.trans (by simp [legalPacket])
  · exact exists_decodeT.trans (by simp [legalPacket])
  · exact exists_decodeC.trans (by simp [legalPacket])

end Sys2Proof
end

section
/-! The wire layer of the encoding, and the operands assembled from the bytes of a bus. -/

namespace Sys2Proof

/-! ## A reader of the display bus -/

/-- A wire command is one of the initialization table's, an address command or memory-write, with the transfer of that command. -/
theorem encodeWire_cases {c : Config} {i : Instr} {op : Byte} {params : List Byte} (h : encodeWire c i = some (op, params)) :
    (∃ k : Fin 16, i = initInstrs[k] ∧ op = c.dsInitSeq[k].op)
      ∨ (∃ x0 x1, i = .dsOpCaset x0 x1 ∧ op = c.dsOpCaset ∧ params = boundBytes x0 x1)
      ∨ (∃ y0 y1, i = .dsOpRaset y0 y1 ∧ op = c.dsOpRaset ∧ params = boundBytes y0 y1)
      ∨ (i = .dsOpRamwr ∧ op = c.dsOpRamwr) := by
  cases i with
  | dsOpSwreset => cases h; exact .inl ⟨0, rfl, rfl⟩
  | dsOpSlpout => cases h; exact .inl ⟨1, rfl, rfl⟩
  | dsOpMadctl => cases h; exact .inl ⟨2, rfl, rfl⟩
  | dsOpColmod => cases h; exact .inl ⟨3, rfl, rfl⟩
  | dsOpPorctrl => cases h; exact .inl ⟨4, rfl, rfl⟩
  | dsOpGctrl => cases h; exact .inl ⟨5, rfl, rfl⟩
  | dsOpVcoms => cases h; exact .inl ⟨6, rfl, rfl⟩
  | dsOpLcmctrl => cases h; exact .inl ⟨7, rfl, rfl⟩
  | dsOpPwr1 => cases h; exact .inl ⟨8, rfl, rfl⟩
  | dsOpPwr2 => cases h; exact .inl ⟨9, rfl, rfl⟩
  | dsOpPwr3 => cases h; exact .inl ⟨10, rfl, rfl⟩
  | dsOpFrctrl => cases h; exact .inl ⟨11, rfl, rfl⟩
  | dsOpPvgam => cases h; exact .inl ⟨12, rfl, rfl⟩
  | dsOpNvgam => cases h; exact .inl ⟨13, rfl, rfl⟩
  | dsOpInvon => cases h; exact .inl ⟨14, rfl, rfl⟩
  | dsOpDispon => cases h; exact .inl ⟨15, rfl, rfl⟩
  | dsOpCaset x0 x1 => cases h; exact .inr (.inl ⟨x0, x1, rfl, rfl, rfl⟩)
  | dsOpRaset y0 y1 => cases h; exact .inr (.inr (.inl ⟨y0, y1, rfl, rfl, rfl⟩))
  | dsOpRamwr => cases h; exact .inr (.inr (.inr ⟨rfl, rfl⟩))
  | _ => exact nomatch h

section
variable {c : Config}

theorem decodeWire_caset (x0 x1 : Half) : decodeWire c c.dsOpCaset (boundBytes x0 x1) = some (.dsOpCaset x0 x1) := by
  simp [decodeWire, boundBytes, bytes16, be16_bytes16]

theorem decodeWire_raset (h : c.AddressOpsDistinct) (y0 y1 : Half) :
    decodeWire c c.dsOpRaset (boundBytes y0 y1) = some (.dsOpRaset y0 y1) := by
  simp [decodeWire, h.casetRaset.symm, boundBytes, bytes16, be16_bytes16]

theorem decodeWire_ramwr (h : c.AddressOpsDistinct) (params : List Byte) :
    decodeWire c c.dsOpRamwr params = some .dsOpRamwr := by
  unfold decodeWire
  rw [if_neg h.casetRamwr.symm, if_neg h.rasetRamwr.symm, if_pos rfl]

/-- Where the opcodes of the table are distinct, looking one up finds its own entry. -/
theorem find?_initSeq_op (hinj : ∀ j k : Fin 16, c.dsInitSeq[j].op = c.dsInitSeq[k].op → j = k) (k : Fin 16) :
    ((List.finRange 16).find? fun j => c.dsInitSeq[j].op == c.dsInitSeq[k].op) = some k := by
  cases hf : (List.finRange 16).find? fun j => c.dsInitSeq[j].op == c.dsInitSeq[k].op with
  | none => exact absurd (beq_self_eq_true _) (List.find?_eq_none.mp hf k (List.mem_finRange k))
  | some j =>
    have hop := List.find?_some hf
    rw [hinj j k (eq_of_beq hop)]

theorem decodeWire_init (h : c.AddressOpsDistinct)
    (hinj : ∀ j k : Fin 16, c.dsInitSeq[j].op = c.dsInitSeq[k].op → j = k) (k : Fin 16) (params : List Byte) :
    decodeWire c c.dsInitSeq[k].op params = some initInstrs[k] := by
  unfold decodeWire
  rw [if_neg (h.initCaset k), if_neg (h.initRaset k), if_neg (h.initRamwr k), find?_initSeq_op hinj]
  rfl

end

/-! ## Values assembled from bytes -/

/-- The left operand of a concatenation is the high part of the value. -/
theorem toNat_append_eq_add {m n : Nat} (x : BitVec m) (y : BitVec n) : (x ++ y).toNat = x.toNat * 2 ^ n + y.toNat := by
  rw [BitVec.toNat_append, ← Nat.shiftLeft_add_eq_or_of_lt y.isLt, Nat.shiftLeft_eq]

theorem be16_toNat (hi lo : Byte) : (be16 hi lo).toNat = 256 * hi.toNat + lo.toNat := by
  rw [be16, toNat_append_eq_add]
  omega

/-- The high four bits of a byte are its sixteenth part. -/
theorem highNibble_toNat (b : Byte) : (b.extractLsb' 4 4).toNat = b.toNat / 16 := by
  have hb := b.isLt
  rw [BitVec.extractLsb'_toNat, Nat.shiftRight_eq_div_pow]
  omega

theorem adcOf_toNat (b0 b1 b2 : Byte) :
    (Machine.adcOf b0 b1 b2).toNat = b0.toNat * 4096 + b1.toNat * 16 + b2.toNat / 16 := by
  rw [Machine.adcOf, toNat_append_eq_add, toNat_append_eq_add, highNibble_toNat]
  omega

end Sys2Proof
end

section
/-! The command port of the idle block, and the address commands on a sink that takes every transfer. -/

namespace Sys2Proof.Machine

/-- A packet that decodes runs its command, with `BUSY` set and the move used up. -/
theorem step_packet_legal {s : State} {op : Byte} {rest : List Byte} {moves : List HostMove} {i : Instr}
    (hb : s.busy = false) (hp : s.env.port = .packet op rest :: moves)
    (hd : decode s.cfg.cbHasAltitude (op :: rest) = .ok i) : step s = exec i (s.withPort moves).accept := by
  rw [step_of_idle hb, stepIdle, hp]
  dsimp only
  rw [stepPacket, withPort_cfg, hd]

/-- A packet that does not decode is answered `[ILLEGAL]`, with the move used up. -/
theorem step_packet_illegal {s : State} {op : Byte} {rest : List Byte} {moves : List HostMove} {why : Illegal}
    (hb : s.busy = false) (hp : s.env.port = .packet op rest :: moves)
    (hd : decode s.cfg.cbHasAltitude (op :: rest) = .illegal why) :
    step s = .next ((s.withPort moves).answer [Status.illegal.code]) := by
  rw [step_of_idle hb, stepIdle, hp]
  dsimp only
  rw [stepPacket, withPort_cfg, hd]

/-- An idle block is not busy after any answer, so that answering writes `BUSY` with the value it has. -/
theorem answer_of_idle {s : State} (hb : s.busy = false) (r : List Byte) :
    s.answer r = { s with obs := { s.obs with responses := r :: s.obs.responses } } := by
  rw [State.answer, ← hb]

end Sys2Proof.Machine
end

section
/-! The form of the responses (`30_encoding.md` R101): what ends an operation gives one of that form, and nothing else gives any. -/

namespace Sys2Proof.Machine

open Sys2Proof.Claims

/-! ## Giving a response -/

theorem responseOk_status (e : Status) : responseOk [e.code] :=
  ⟨e.code, [], rfl, by cases e <;> decide, fun _ => rfl⟩

theorem responseOk_payload (p : List Byte) : responseOk (Status.ok.code :: p) :=
  ⟨Status.ok.code, p, rfl, by decide, fun h => absurd rfl h⟩

section
variable {s t : State}

/-- Where no response has been given the responses are still well formed. -/
theorem responsesOk_of_eq (h : s.ResponsesOk) (ht : t.obs.responses = s.obs.responses) : t.ResponsesOk := by
  unfold State.ResponsesOk
  rw [ht]
  exact h

theorem responsesOk_of_cons {r : List Byte} (h : s.ResponsesOk) (hr : responseOk r)
    (ht : t.obs.responses = r :: s.obs.responses) : t.ResponsesOk := by
  unfold State.ResponsesOk
  rw [ht]
  exact List.forall_mem_cons.mpr ⟨hr, h⟩

theorem responsesOk_answer {r : List Byte} (h : s.ResponsesOk) (hr : responseOk r) : (s.answer r).ResponsesOk :=
  responsesOk_of_cons h hr rfl

theorem responsesOk_respond (u : BlockUnit) (p : List Byte) (h : s.ResponsesOk) : (s.respond u p).ResponsesOk :=
  responsesOk_of_cons h (responseOk_payload p) (respond_responses u p s)

theorem responsesOk_fail (u : BlockUnit) (e : Status) (h : s.ResponsesOk) : (s.fail u e).ResponsesOk :=
  responsesOk_of_cons h (responseOk_status e) (fail_responses u e s)

end

/-! ## Statements -/

section
variable {s t : State} {r : Run}

theorem responsesOk_goOn {next : State → State} (u : BlockUnit) (hr : r.Ends State.ResponsesOk)
    (hn : ∀ m, m.ResponsesOk → (next m).ResponsesOk) : (r.goOn u next).ResponsesOk :=
  Run.goOn_ends hr hn fun e _ => responsesOk_fail u e

theorem responsesOk_finish (u : BlockUnit) (p : State → List Byte) (hr : r.Ends State.ResponsesOk) :
    (r.finish u p).ResponsesOk :=
  responsesOk_goOn u hr fun m => responsesOk_respond u (p m)

/-- Statements that give no response, wherever they stop. -/
theorem responsesOk_of_post {P : State → Prop} {Q : Status → State → Prop} (h : s.ResponsesOk) (hr : r.Post P Q)
    (hP : ∀ m, P m → m.obs.responses = s.obs.responses) (hQ : ∀ e m, Q e m → m.obs.responses = s.obs.responses) :
    r.Ends State.ResponsesOk := by
  cases r with
  | ok m => exact responsesOk_of_eq h (hP m hr)
  | err e m => exact responsesOk_of_eq h (hQ e m hr)

theorem DisplayError.responses {may : Bool} {e : Status} (h : DisplayError may s e t) :
    t.obs.responses = s.obs.responses := by
  cases h with
  | bus _ responses _ => exact responses
  | refused _ _ _ _ k => exact k.responses

theorem responsesOk_of_streamed {opened may : Bool} (h : s.ResponsesOk)
    (hr : r.Post (Streamed opened s) (DisplayError may s)) : r.Ends State.ResponsesOk :=
  responsesOk_of_post h hr (fun _ k => k.responses) fun _ _ k => k.responses

end

/-! ## The instructions -/

section
variable {s t : State}

theorem responsesOk_swMeasure (h : s.ResponsesOk) : (swMeasure s).Ends State.ResponsesOk :=
  responsesOk_of_post h (swMeasure_post s) (fun _ k => k.responses) fun _ _ k => k.2.responses

theorem responsesOk_needReading (h : s.ResponsesOk) : (needReading s).Ends State.ResponsesOk :=
  responsesOk_of_post h (needReading_post s) (fun _ k => k.responses) fun _ _ k => k.2.responses

theorem responsesOk_cbNew (addr : BitVec 7) (h : s.ResponsesOk) : (cbNew addr s).Ends State.ResponsesOk :=
  responsesOk_of_post h (cbNew_post addr s) (fun _ k => k.responses) fun _ _ k => k.2.responses

theorem responsesOk_cbRead (h : s.ResponsesOk) : (cbRead s).Ends State.ResponsesOk :=
  responsesOk_of_post h (cbRead_post s) (fun _ k => k.responses) fun _ _ k => k.2.responses

theorem responsesOk_cbAltitude (p0 : Word) (h : s.ResponsesOk) : (cbAltitude p0 s).Ends State.ResponsesOk :=
  responsesOk_of_post h (cbAltitude_post p0 s) (fun _ k => k.responses) fun _ _ k => k.2.responses

theorem responsesOk_dsNew (h : s.ResponsesOk) : (dsNew s).Ends State.ResponsesOk :=
  responsesOk_of_post h (dsNew_post s) (fun _ k => k.responses) fun _ _ k => k.2.responses

theorem responsesOk_exec_sws {i : Instr} (hi : isSws i = true) (h : s.ResponsesOk) (he : exec i s = .next t) :
    t.ResponsesOk := by
  cases i with
  | swMeasure => cases he; exact responsesOk_finish _ _ (responsesOk_swMeasure h)
  | swTemperature | swHumidity => cases he; exact responsesOk_finish _ _ (responsesOk_needReading h)
  | _ => exact nomatch hi

theorem responsesOk_exec_cbs {i : Instr} (hi : isCbs i = true) (h : s.ResponsesOk) (he : exec i s = .next t) :
    t.ResponsesOk := by
  cases i with
  | cbNew addr => cases he; exact responsesOk_finish _ _ (responsesOk_cbNew addr h)
  | cbRead => cases he; exact responsesOk_finish _ _ (responsesOk_cbRead h)
  | cbAltitude p p0 => cases he; exact responsesOk_finish _ _ (responsesOk_cbAltitude p0 h)
  | _ => exact nomatch hi

theorem responsesOk_exec_dsp {i : Instr} (hs : isSws i = false) (hc : isCbs i = false) (h : s.ResponsesOk)
    (he : exec i s = .next t) : t.ResponsesOk := by
  by_cases hn : i = .dsNew
  · cases hn
    cases he
    exact responsesOk_finish _ _ (responsesOk_dsNew h)
  · obtain ⟨r, hr, hend⟩ := exec_streamed hs hc hn s
    have hr := responsesOk_of_streamed h hr
    rcases hend with hend | hend <;> cases he.symm.trans hend
    · exact responsesOk_finish _ _ hr
    · exact responsesOk_goOn _ hr fun _ k => k

theorem responsesOk_exec {i : Instr} (h : s.ResponsesOk) (he : exec i s = .next t) : t.ResponsesOk := by
  rcases exec_unit_cases he with ⟨hs, _, _⟩ | ⟨_, hc, _⟩ | ⟨hs, hc, _⟩
  · exact responsesOk_exec_sws hs h he
  · exact responsesOk_exec_cbs hc h he
  · exact responsesOk_exec_dsp hs hc h he

end

/-! ## The tick machine of SWS -/

section
variable {s : State}

theorem responsesOk_lineSample (h : s.ResponsesOk) : (lineSample s).2.ResponsesOk :=
  responsesOk_of_eq h (by rw [(lineSample_sampled s).obs])

theorem responsesOk_swEnterStartH (h : s.ResponsesOk) : (swEnterStartH s).ResponsesOk := by
  unfold swEnterStartH
  dsimp only
  split <;> exact h

theorem responsesOk_swEnterStartL (h : s.ResponsesOk) : (swEnterStartL s).ResponsesOk := by
  unfold swEnterStartL
  dsimp only
  split
  · exact responsesOk_swEnterStartH h
  · exact h

theorem responsesOk_swDriven {next : State → State} (n : Nat) (h : s.ResponsesOk)
    (hn : ∀ m, m.ResponsesOk → (next m).ResponsesOk) : (swDriven n next s).ResponsesOk := by
  unfold swDriven
  dsimp only
  split
  · exact hn _ h
  · exact h

theorem responsesOk_swWaiting {next : State → State} (level : Bool) (bound : Nat) (h : s.ResponsesOk)
    (hn : ∀ m, m.ResponsesOk → (next m).ResponsesOk) : (swWaiting level bound next s).ResponsesOk := by
  have hl := responsesOk_lineSample h
  unfold swWaiting
  dsimp only
  split
  · exact hn _ hl
  · split
    · exact responsesOk_fail _ _ hl
    · exact hl

theorem responsesOk_checkAndCommit (h : s.ResponsesOk) : (checkAndCommit s).Ends State.ResponsesOk := by
  unfold checkAndCommit
  split <;> exact h

theorem responsesOk_swMeasuring (h : s.ResponsesOk) : (swMeasuring s).ResponsesOk := by
  have hl := responsesOk_lineSample h
  unfold swMeasuring
  dsimp only
  split
  · split
    · exact responsesOk_fail _ _ hl
    · exact hl
  · split
    · exact hl
    · exact responsesOk_finish _ _ (responsesOk_checkAndCommit hl)

theorem responsesOk_swTick (h : s.ResponsesOk) : (swTick s).ResponsesOk := by
  unfold swTick
  split
  case h_1 => exact h
  case h_2 => exact responsesOk_swDriven _ h fun _ => responsesOk_swEnterStartL
  case h_3 => exact responsesOk_swDriven _ h fun _ => responsesOk_swEnterStartH
  case h_4 => exact responsesOk_swDriven _ h fun _ k => k
  case h_5 | h_6 | h_7 | h_8 => exact responsesOk_swWaiting _ _ h fun _ k => k
  case h_9 => exact responsesOk_swMeasuring h

end

/-! ## The statements of CBS and DSP -/

section
variable {s : State}

theorem responsesOk_i2cRead (a : BitVec 7) (reg : Byte) (n : Nat) (h : s.ResponsesOk) :
    (i2cRead a reg n s).2.ResponsesOk := by
  obtain ⟨_, _, _, _, _, _, _, _, hobs⟩ := i2cRead_frame a reg n s
  exact responsesOk_of_eq h (by rw [hobs])

theorem responsesOk_i2cWrite (a : BitVec 7) (reg : Byte) (bytes : List Byte) (h : s.ResponsesOk) :
    (i2cWrite a reg bytes s).2.ResponsesOk := by
  obtain ⟨_, _, _, _, _, _, _, _, hobs⟩ := i2cWrite_frame a reg bytes s
  exact responsesOk_of_eq h (by rw [hobs])

theorem responsesOk_probe (addr : BitVec 7) (second : Bool) (h : s.ResponsesOk) :
    (probe addr second s).2.ResponsesOk :=
  responsesOk_i2cRead _ _ _ (s := s.cbAt (.probe addr second)) h

theorem responsesOk_cbCalib (found : BitVec 7) (h : s.ResponsesOk) : (cbCalib found s).Ends State.ResponsesOk := by
  have hr := responsesOk_i2cRead found s.cfg.cbRegCalib Config.calibLen (s := s.cbAt (.calib found)) h
  unfold cbCalib
  dsimp only
  split <;> exact hr

theorem responsesOk_cbConfig (found : BitVec 7) (h : s.ResponsesOk) : (cbConfig found s).Ends State.ResponsesOk := by
  have hw := responsesOk_i2cWrite found s.cfg.cbRegCtrl [s.cfg.cbCtrlValue] (s := s.cbAt (.config found)) h
  unfold cbConfig
  dsimp only
  split <;> exact hw

theorem responsesOk_of_pairKept {r : Run} (h : s.ResponsesOk) (hr : r.Keeps (PairKept s)) : r.Ends State.ResponsesOk :=
  responsesOk_of_post h hr (fun _ k => k.responses) fun _ _ k => k.2.responses

theorem responsesOk_cbStatement (h : s.ResponsesOk) : (cbStatement s).ResponsesOk := by
  unfold cbStatement
  split
  case h_1 | h_2 | h_10 => exact h
  case h_3 addr second _ =>
    have hp := responsesOk_probe addr second h
    dsimp only
    split
    · exact hp
    · split
      · exact responsesOk_fail _ _ hp
      · exact hp
  case h_4 => exact responsesOk_goOn _ (responsesOk_cbCalib _ h) fun _ k => k
  case h_5 => exact responsesOk_goOn _ (responsesOk_cbConfig _ h) fun _ k => k
  case h_6 | h_12 => exact responsesOk_respond _ _ h
  case h_7 => exact responsesOk_goOn _ (responsesOk_of_pairKept h (pairKept_cbCheck (.refl s))) fun _ k => k
  case h_8 => exact responsesOk_goOn _ (responsesOk_of_pairKept h (pairKept_cbReadT (.refl s))) fun _ k => k
  case h_9 => exact responsesOk_goOn _ (responsesOk_of_pairKept h (pairKept_cbReadP (.refl s))) fun _ k => k
  case h_11 =>
    split
    · exact responsesOk_fail _ _ h
    · exact h

theorem responsesOk_dsStatement (h : s.ResponsesOk) : (dsStatement s).ResponsesOk := by
  have window (x0 y0 x1 y1 : Half) : (setWindow x0 y0 x1 y1 s).Ends State.ResponsesOk :=
    responsesOk_of_streamed (may := true) h (streamed_setWindow _ _ _ _ (.refl s))
  have chunk (n : Nat) : (streamChunk n s).Ends State.ResponsesOk :=
    responsesOk_of_streamed (may := true) h (streamed_streamChunk n (.refl s))
  unfold dsStatement
  split
  case h_3 => exact responsesOk_of_eq h (backlightOn_responses s)
  case h_4 => exact responsesOk_respond _ _ h
  case h_5 =>
    split
    · exact responsesOk_respond _ _ h
    · exact h
  case h_6 => exact responsesOk_goOn _ (window _ _ _ _) fun _ k => k
  case h_8 =>
    split
    · exact responsesOk_respond _ _ h
    · exact responsesOk_goOn _ (chunk _) fun _ k => k
  all_goals exact h

theorem responsesOk_afterWire (h : s.ResponsesOk) : (afterWire s).ResponsesOk := by
  unfold afterWire
  split
  case h_1 => split <;> exact h
  case h_4 => exact responsesOk_respond _ _ h
  all_goals exact h

theorem responsesOk_innerStatement (h : s.ResponsesOk) : (innerStatement s).ResponsesOk := by
  rcases innerStatement_cases s with ⟨_, hi⟩ | ⟨_, _, hi⟩ | ⟨_, _, hi⟩ <;> rw [hi]
  · exact responsesOk_dsStatement h
  · exact responsesOk_cbStatement h
  · exact h

end

/-! ## The step -/

section
variable {s t : State}

/-- A step of the idle block gives a response for a packet alone: its command's, or `[ILLEGAL]`. -/
theorem responsesOk_step_idle (hb : s.busy = false) (h : s.ResponsesOk) (ht : step s = .next t) : t.ResponsesOk := by
  rcases step_idle_cases hb ht with ⟨_, rfl⟩ | ⟨_, _, _, rfl⟩ | ⟨_, _, rest, _, _, _, he⟩ | ⟨_, _, _, _, _, _, rfl⟩
  · exact h
  · exact h
  · exact responsesOk_exec (s := (s.withPort rest).accept) h he
  · exact responsesOk_answer h (responseOk_status .illegal)

/-- A step inside an operation gives a response where the operation ends. -/
theorem responsesOk_step_busy (hb : s.busy = true) (h : s.ResponsesOk) (ht : step s = .next t) : t.ResponsesOk := by
  have hs : s.ignorePacket.ResponsesOk := responsesOk_of_eq h (by rw [ignorePacket_obs])
  rcases step_busy_cases hb ht with ⟨_, rfl⟩ | ⟨_, i, _, he⟩ | ⟨_, _, rfl⟩
  · exact responsesOk_swTick hs
  · obtain ⟨m, hm, rfl⟩ := inOperation_eq_next he
    have hm := responsesOk_exec hs hm
    split
    · exact responsesOk_afterWire hm
    · exact hm
  · exact responsesOk_innerStatement hs

end

end Sys2Proof.Machine
end

section
/-! The statements of `30_encoding.md`. -/

namespace Sys2Proof.Proofs

open Sys2Proof.Machine

/-- Settles O1: each command's packet, by its format. -/
theorem commandPacketsDecodeBack : Obligations.CommandPacketsDecodeBack :=
  fun _ _ => decode_encode

/-- Settles O2: the decoder of each format takes only the bytes of its operands. -/
theorem legalPacketsEncodeBack : Obligations.LegalPacketsEncodeBack := by
  intro hasAltitude bytes i h
  obtain ⟨hencoded, hcommand, hwellFormed, hpresent⟩ := isPacketOf_of_decode h
  exact ⟨hencoded, hcommand, hwellFormed, hpresent⟩

/-- Settles O3: the opcode decides the clause, and its format the lengths and bits. -/
theorem packetsAreLegalExactlyAsStated : Obligations.PacketsAreLegalExactlyAsStated :=
  exists_decode_iff_legalPacket

/-- Settles O4: the reader finds each command by its opcode, and an address command's bounds in its parameter bytes. -/
theorem wireCommandsReadBack : Obligations.WireCommandsReadBack := by
  intro c i op params hd hinj h
  rcases encodeWire_cases h with ⟨k, rfl, rfl⟩ | ⟨x0, x1, rfl, rfl, rfl⟩ | ⟨y0, y1, rfl, rfl, rfl⟩ | ⟨rfl, rfl⟩
  · exact decodeWire_init hd hinj k params
  · exact decodeWire_caset x0 x1
  · exact decodeWire_raset hd y0 y1
  · exact decodeWire_ramwr hd params

/-- Settles O5: each packet is its command's own. -/
theorem packetsOfTheVectorsDecode : Obligations.PacketsOfTheVectorsDecode :=
  ⟨decode_encode (i := .swMeasure) rfl rfl rfl, decode_encode (i := .cbNew 0x76) rfl rfl rfl,
    decode_encode (i := .cbAltitude 25767233 25939200) rfl rfl rfl,
    decode_encode (i := .dsFillRect 10 20 100 50 0xF800) rfl rfl rfl,
    decode_encode (i := .dsDrawText 8 16 0xFFFF true 0x001F [0x48, 0x69]) rfl rfl rfl⟩

/-- Settles O6: the idle block takes the packet, and the port decodes it. -/
theorem stepRunsThePresentedCommand : Obligations.StepRunsThePresentedCommand :=
  fun _ _ _ _ _ hb hp hd => step_packet_legal hb hp hd

/-- Settles O7: the clauses decide whether the packet decodes; the command it decodes to is the one it is the packet of. -/
theorem stepAnswersIllegalPackets : Obligations.StepAnswersIllegalPackets := by
  intro s op rest moves hb hp
  rw [← exists_decode_iff_legalPacket]
  constructor
  · rintro ⟨i, hd⟩
    have hi := isPacketOf_of_decode hd
    exact ⟨i, hi.isCommand, hi.encoded, step_packet_legal hb hp hd⟩
  · intro hillegal
    cases hd : decode s.cfg.cbHasAltitude (op :: rest) with
    | ok i => exact absurd ⟨i, hd⟩ hillegal
    | illegal why =>
      rw [step_packet_illegal hb hp hd, answer_of_idle (by simpa using hb)]
      rfl

/-- Settles O13: whatever a step is, the responses it gives are an operation's end or `[ILLEGAL]`. -/
theorem everyStepKeepsResponsesWellFormed : Obligations.EveryStepKeepsResponsesWellFormed := by
  intro s t h ht
  cases hb : s.busy with
  | false => exact responsesOk_step_idle hb h ht
  | true => exact responsesOk_step_busy hb h ht

/-- Settles O37: concatenation weighs the bytes, and the examples are evaluated. -/
theorem rawValuesAndCoefficientsAreAssembled : Obligations.RawValuesAndCoefficientsAreAssembled :=
  ⟨adcOf_toNat, by decide, fun _ _ => be16_toNat _ _, by decide, by decide, by decide⟩

/-- Settles O56: the command and its bounds are two good transfers, memory-write is one. -/
theorem addressCommandsAreSent : Obligations.AddressCommandsAreSent := by
  intro s a b rest ha hb
  refine ⟨fun hspi lo hi => ⟨?_, ?_⟩, fun hspi => ?_⟩
  · rw [BitVec.ofNat_add]
    exact congrArg (fun r : Run => Host.Outcome.next r.statement) (sendCaset_given hspi ha hb lo hi)
  · rw [BitVec.ofNat_add]
    exact congrArg (fun r : Run => Host.Outcome.next r.statement) (sendRaset_given hspi ha hb lo hi)
  · exact congrArg (fun r : Run => Host.Outcome.next r.statement) (dsCmd_sent hspi ha s.cfg.dsOpRamwr)

end Sys2Proof.Proofs
end

section
/-! A measurement whatever the line does (`40_single_wire.md` R140 to R142, R150, R152): the gate, the start pulse, and how
many samples each statement takes. -/

namespace Sys2Proof.Machine

open Sys2Proof.Claims

/-! ## The gate and the start pulse -/

theorem gateClosed_iff (s : State) : gateClosed s = true ↔ gateShut s := by
  simp [gateClosed, gateShut]

theorem swMeasure_of_shut {s : State} (h : gateShut s) : swMeasure s = .ok s := by
  rw [swMeasure, if_pos ((gateClosed_iff s).mpr h)]

theorem swMeasure_of_open {s : State} (h : ¬ gateShut s) : swMeasure s = handshake s := by
  rw [swMeasure, if_neg fun hc => h ((gateClosed_iff s).mp hc)]

theorem exec_swMeasure_of_open {s : State} (h : ¬ gateShut s) :
    exec .swMeasure s = .next ((handshake s).finish .sws noPayload) := by
  rw [← swMeasure_of_open h]
  rfl

/-- A closed gate answers `[OK]` and leaves everything else. -/
theorem exec_swMeasure_of_shut {s : State} (h : gateShut s) : exec .swMeasure s = .next (s.respond .sws []) := by
  change Host.Outcome.next ((swMeasure s).finish .sws noPayload) = _
  rw [swMeasure_of_shut h]
  rfl

@[simp] theorem startPulse_cfg (s : State) : (startPulse s).cfg = s.cfg := by simp [startPulse]
@[simp] theorem startPulse_cbs (s : State) : (startPulse s).cbs = s.cbs := by simp [startPulse]
@[simp] theorem startPulse_dsp (s : State) : (startPulse s).dsp = s.dsp := by simp [startPulse]
@[simp] theorem startPulse_env (s : State) : (startPulse s).env = s.env := by simp [startPulse]
@[simp] theorem startPulse_sws (s : State) :
    (startPulse s).sws = { s.sws with seq := .startH, oe := false, out := true } := by simp [startPulse]

@[simp] theorem startPulse_obs (s : State) :
    (startPulse s).obs = { s.obs with events := (pulseEvents s.cfg).reverse ++ s.obs.events } := by
  simp [startPulse, pulseEvents]

@[simp] theorem startPulse_tick (s : State) :
    (startPulse s).tick = s.tick + BitVec.ofNat 64 (pulseTicks s.cfg) := by
  simp [startPulse, pulseTicks, BitVec.ofNat_add, BitVec.add_assoc]

/-! ## What one statement samples -/

/-- The registers of SWS are no part of what sampling moves. -/
theorem Sampled.withSws {l : List Bool} {s t : State} (h : Sampled l s t) (x : Sws) : Sampled l s { t with sws := x } :=
  ⟨h.cfg, h.busy, h.cbs, h.dsp, h.port, h.i2c, h.spi, h.tick, h.obs⟩

/-- Entering a sampling state takes no sample. -/
theorem sampled_enter (q : SwSeq) (s : State) : Sampled [] s ((s.swAt q).swCount 0) := (Sampled.refl s).withSws _

/-- A wait, whatever the line does: found with `SW_CNT` samples of the other level before, or timed out at its bound. -/
theorem awaitLevel_cases (q : SwSeq) (level : Bool) (bound : Nat) (s : State) :
    ∃ l k t, Sampled l s t ∧ t.sws = { s.sws with seq := q, cnt := k } ∧ l.length ≤ bound
      ∧ (awaitLevel q level bound s = .ok t ∧ l.length = k + 1 ∨ awaitLevel q level bound s = .err .timeoutError t) := by
  obtain ⟨l, k, hw, hle, hsws, hfound, -⟩ := waitLevel_cases level bound ((s.swAt q).swCount 0)
  refine ⟨l ++ [], 0 + k, _, (sampled_enter q s).trans hw, hsws, by simpa using hle, ?_⟩
  unfold awaitLevel
  dsimp only
  split
  next h => exact .inl ⟨rfl, by simpa using hfound h⟩
  next => exact .inr rfl

/-- A wait that completes writes no parameter and leaves `SW_BIT`. -/
theorem awaitLevel_ok {q : SwSeq} {level : Bool} {bound : Nat} {s m : State} (h : awaitLevel q level bound s = .ok m) :
    m.cfg = s.cfg ∧ m.sws.bit = s.sws.bit := by
  obtain ⟨l, k, t, hs, hsws, -, ⟨hok, -⟩ | herr⟩ := awaitLevel_cases q level bound s
  · cases h.symm.trans hok
    exact ⟨hs.cfg, by rw [hsws]⟩
  · exact nomatch h.symm.trans herr

/-- A high phase is measured by waiting for the line to be low. -/
theorem measureHigh_eq_waitLevel (n : Nat) (s : State) : measureHigh n s = waitLevel false n s := by
  induction n generalizing s with
  | zero => rfl
  | succ n ih => cases h : (lineSample s).1 <;> simp [measureHigh, waitLevel, h, ih]

/-- `HIGH` is a wait for the end of the high phase, and `STORE` follows it. -/
theorem highPhase_eq (s : State) :
    highPhase s = (awaitLevel .high false s.cfg.swNBit s).andThen fun m => .ok (storeBit m) := by
  unfold highPhase awaitLevel
  simp only [measureHigh_eq_waitLevel]
  split <;> rfl

/-- `t` is `s` after hearing these levels, oldest first, the line's trace going on with `rest`. -/
structure Heard (levels rest : List Bool) (s t : State) : Prop extends Sampled levels.reverse s t where
  env : t.env = { s.env with line := rest }

/-- A wait that hears only the other level times out. -/
theorem awaitLevel_timeout (q : SwSeq) (level : Bool) (bound : Nat) {rest : List Bool} {s : State}
    (h : s.env.line = List.replicate bound (!level) ++ rest) :
    ∃ t, awaitLevel q level bound s = .err .timeoutError t ∧ Heard (List.replicate bound (!level)) rest s t
      ∧ t.sws = { s.sws with seq := q, cnt := bound } := by
  have hw := waitLevel_timeout level bound rest ((s.swAt q).swCount 0) h
  refine ⟨(waitLevel level bound ((s.swAt q).swCount 0)).2, ?_, ?_, ?_⟩
  · unfold awaitLevel
    rw [hw]
    rfl
  · rw [hw]
    constructor
    · constructor <;> simp
    · rfl
  · rw [hw]
    simp

/-! ## How many samples -/

/-- From `s` the statements take samples and do nothing else outside SWS: at most `hi`, and at least `lo` where they complete. -/
abbrev Run.SamplesWithin (lo hi : Nat) (s : State) : Run → Prop :=
  Run.Post (fun t => ∃ l, Sampled l s t ∧ lo ≤ l.length ∧ l.length ≤ hi)
    fun e t => e ≠ .ok ∧ ∃ l, Sampled l s t ∧ l.length ≤ hi

theorem samplesWithin_andThen {lo hi lo' hi' lo'' hi'' : Nat} {s : State} {r : Run} {f : State → Run}
    (hr : r.SamplesWithin lo hi s) (hf : ∀ m, m.cfg = s.cfg → (f m).SamplesWithin lo' hi' m)
    (hlo : lo'' ≤ lo + lo') (hhi : hi + hi' ≤ hi'') : (r.andThen f).SamplesWithin lo'' hi'' s := by
  cases r with
  | err e t =>
    obtain ⟨he, l, hl, hle⟩ := hr
    exact ⟨he, l, hl, by omega⟩
  | ok m =>
    obtain ⟨l, hl, hm⟩ := hr
    refine (hf m hl.cfg).mono (fun t ht => ?_) fun e t ht => ?_
    · obtain ⟨l', hl', ht⟩ := ht
      exact ⟨l' ++ l, hl.trans hl', by rw [List.length_append]; omega⟩
    · obtain ⟨he, l', hl', ht⟩ := ht
      exact ⟨he, l' ++ l, hl.trans hl', by rw [List.length_append]; omega⟩

theorem awaitLevel_samplesWithin (q : SwSeq) (level : Bool) {bound n : Nat} (hn : bound = n) (s : State) :
    (awaitLevel q level bound s).SamplesWithin 1 n s := by
  obtain ⟨l, k, t, hs, -, hle, ⟨hok, hk⟩ | herr⟩ := awaitLevel_cases q level bound s
  · rw [hok]
    exact ⟨l, hs, by omega⟩
  · rw [herr]
    exact ⟨nofun, l, hs, by omega⟩

theorem highPhase_samplesWithin {n : Nat} {s : State} (hn : s.cfg.swNBit = n) : (highPhase s).SamplesWithin 1 n s := by
  have store (m : State) : (Run.ok (storeBit m)).SamplesWithin 0 0 m := ⟨[], (Sampled.refl m).withSws _, by simp⟩
  rw [highPhase_eq]
  exact samplesWithin_andThen (awaitLevel_samplesWithin .high false hn s) (fun m _ => store m) le_rfl le_rfl

/-- Three bounded waits a bit. -/
theorem readBit_samplesWithin {n : Nat} {s : State} (hn : s.cfg.swNBit = n) : (readBit s).SamplesWithin 3 (3 * n) s := by
  have edges := samplesWithin_andThen (f := fun m => awaitLevel .rise true m.cfg.swNBit m) (lo'' := 2) (hi'' := 2 * n)
    (awaitLevel_samplesWithin .fall false hn s)
    (fun m hm => awaitLevel_samplesWithin .rise true (hm ▸ hn) m) (by omega) (by omega)
  exact samplesWithin_andThen edges (fun m hm => highPhase_samplesWithin (hm ▸ hn)) (by omega) (by omega)

theorem readBits_samplesWithin (k : Nat) {n : Nat} {s : State} (hn : s.cfg.swNBit = n) :
    (readBits k s).SamplesWithin (k * 3) (k * (3 * n)) s := by
  induction k generalizing s with
  | zero => exact ⟨[], .refl s, by simp⟩
  | succ k ih =>
    have hsum : 3 * n + k * (3 * n) ≤ (k + 1) * (3 * n) := le_of_eq (by ring)
    exact samplesWithin_andThen (readBit_samplesWithin hn) (fun m hm => ih (hm ▸ hn)) (by omega) hsum

theorem checkAndCommit_samplesWithin (s : State) : (checkAndCommit s).SamplesWithin 0 0 s := by
  unfold checkAndCommit
  split
  · exact ⟨[], (Sampled.refl s).withSws _, by simp⟩
  · exact ⟨nofun, [], .refl s, by simp⟩

theorem acknowledge_samplesWithin (s : State) :
    ((awaitLevel .ackL false s.cfg.swNAck (startPulse s)).andThen
      fun m => awaitLevel .ackH true m.cfg.swNAck m).SamplesWithin 2 (2 * s.cfg.swNAck) (startPulse s) :=
  samplesWithin_andThen (awaitLevel_samplesWithin .ackL false rfl _)
    (fun m hm => awaitLevel_samplesWithin .ackH true (congrArg Config.swNAck (hm.trans (startPulse_cfg s))) m)
    (by omega) (by omega)

/-- The frame, of any number of bits: setting `SW_BIT` takes no sample. -/
theorem frame_samplesWithin (k : Nat) {n : Nat} {s : State} (hn : s.cfg.swNBit = n) :
    (readBits k (firstBit s)).SamplesWithin (k * 3) (k * (3 * n)) s := by
  have start : (Run.ok (firstBit s)).SamplesWithin 0 0 s := ⟨[], (Sampled.refl s).withSws _, by simp⟩
  exact samplesWithin_andThen start (fun m hm => readBits_samplesWithin k (hm ▸ hn)) (by omega) (by omega)

/-- The bounds of R152, after the start pulse. -/
theorem handshake_samplesWithin (s : State) :
    (handshake s).SamplesWithin (2 + 40 * 3) (2 * s.cfg.swNAck + 40 * 3 * s.cfg.swNBit) (startPulse s) :=
  samplesWithin_andThen
    (samplesWithin_andThen (acknowledge_samplesWithin s)
      (fun m hm => frame_samplesWithin 40 (congrArg Config.swNBit (hm.trans (startPulse_cfg s)))) le_rfl le_rfl)
    (fun m _ => checkAndCommit_samplesWithin m) le_rfl (by omega)

/-! ## How a measurement ends -/

/-- A measurement past an open gate: its pulse, then samples. It succeeds with at least one sample for each of its waits, or fails and
keeps the reading. -/
theorem exec_swMeasure_cases {s : State} (h : ¬ gateShut s) :
    ∃ l m, Sampled l (startPulse s) m ∧ l.length ≤ 2 * s.cfg.swNAck + 40 * 3 * s.cfg.swNBit
      ∧ ((exec .swMeasure s = .next (m.respond .sws []) ∧ 2 + 40 * 3 ≤ l.length)
        ∨ ∃ e, e ≠ .ok ∧ exec .swMeasure s = .next (m.fail .sws e) ∧ ReadingKept s m) := by
  rw [exec_swMeasure_of_open h]
  have kept := swMeasure_post s
  rw [swMeasure_of_open h] at kept
  have within := handshake_samplesWithin s
  cases hr : handshake s with
  | ok m =>
    rw [hr] at within
    obtain ⟨l, hl, hlo, hhi⟩ := within
    exact ⟨l, m, hl, hhi, .inl ⟨rfl, hlo⟩⟩
  | err e m =>
    rw [hr] at within kept
    obtain ⟨he, l, hl, hhi⟩ := within
    exact ⟨l, m, hl, hhi, .inr ⟨e, he, rfl, kept.2⟩⟩

/-- What the pulse and the samples put into the history. -/
theorem Sampled.events_after_startPulse {l : List Bool} {s m : State} (h : Sampled l (startPulse s) m) :
    m.obs.events = l.map Event.lineSample ++ (pulseEvents s.cfg).reverse ++ s.obs.events := by
  rw [h.obs, startPulse_obs, List.append_assoc]

theorem Sampled.responses_after_startPulse {l : List Bool} {s m : State} (h : Sampled l (startPulse s) m) :
    m.obs.responses = s.obs.responses := by
  rw [h.obs, startPulse_obs]

theorem Sampled.tick_after_startPulse {l : List Bool} {s m : State} (h : Sampled l (startPulse s) m) :
    m.tick = s.tick + BitVec.ofNat 64 (pulseTicks s.cfg + l.length) := by
  rw [h.tick, startPulse_tick, BitVec.ofNat_add, BitVec.add_assoc]

/-- A failure does not look like success. -/
theorem fail_responses_ne_ok {s m : State} {e : Status} (u : BlockUnit) (he : e ≠ .ok)
    (hm : m.obs.responses = s.obs.responses) : (m.fail u e).obs.responses ≠ [0] :: s.obs.responses := by
  rw [← hm]
  exact fun h => not_succeeded_fail u he ⟨[], h⟩

end Sys2Proof.Machine
end

section
/-! The frame buffer: where a bit of the frame goes, what storing several of them leaves, and what the checksum notices
(`40_single_wire.md` R145, R146, R154). -/

namespace Sys2Proof.Machine

open Sys2Proof.Claims

/-! ## Bits -/

theorem bufferByte_eq_getElem (buf : Vector Byte 5) {k : Nat} (hk : k < 5) : buf.getD k 0 = buf[k] := by
  simp [Vector.getD, hk]

theorem getLsbD_writeBit (b : Byte) (n : Nat) (v : Bool) {m : Nat} (hm : m < 8) :
    (writeBit b n v).getLsbD m = if m = n then v else b.getLsbD m := by
  have hbit : (1#8 <<< n).getLsbD m = decide (m = n) := by
    rw [Bool.eq_iff_iff]
    simp [hm]
    omega
  unfold writeBit
  split
  · rw [BitVec.getLsbD_or, hbit]
    by_cases h : m = n <;> simp [*]
  · rw [BitVec.getLsbD_and, BitVec.getLsbD_not, hbit]
    by_cases h : m = n <;> simp [*]

/-- Byte `j` of the buffer after bit `i` is stored. -/
theorem bufferByte_storeFrameBit (buf : Vector Byte 5) (i : Nat) (v : Bool) {j : Nat} (hj : j < 5) :
    (storeFrameBit buf i v).getD j 0
      = if i / 8 = j then writeBit (buf.getD j 0) (7 - i % 8) v else buf.getD j 0 := by
  rw [bufferByte_eq_getElem _ hj, bufferByte_eq_getElem _ hj, storeFrameBit, Vector.getElem_setIfInBounds hj]
  refine ite_congr rfl (fun h => ?_) fun _ => rfl
  rw [h, bufferByte_eq_getElem _ hj]

/-- R145: bit i of the frame is stored in its place, and the other bits stay. -/
theorem frameBit_storeFrameBit (buf : Vector Byte 5) (i : Nat) (v : Bool) {j : Nat} (hj : j < 40) :
    ((storeFrameBit buf i v).getD (j / 8) 0).getLsbD (7 - j % 8)
      = if j = i then v else (buf.getD (j / 8) 0).getLsbD (7 - j % 8) := by
  rw [bufferByte_storeFrameBit buf i v (by omega)]
  by_cases hbyte : i / 8 = j / 8
  · rw [if_pos hbyte, getLsbD_writeBit _ _ _ (by omega)]
    exact if_congr (by omega) rfl rfl
  · rw [if_neg hbyte, if_neg (by omega)]

/-- The buffer after bits i, i + 1, … of the frame are stored. -/
def storeFrameBits (buf : Vector Byte 5) (i : Nat) : List Bool → Vector Byte 5
  | [] => buf
  | v :: vs => storeFrameBits (storeFrameBit buf i v) (i + 1) vs

/-- Storing bits from i on leaves the bits before. -/
theorem frameBit_storeFrameBits_of_lt (vs : List Bool) (buf : Vector Byte 5) {i j : Nat} (hj : j < 40) (hji : j < i) :
    ((storeFrameBits buf i vs).getD (j / 8) 0).getLsbD (7 - j % 8) = (buf.getD (j / 8) 0).getLsbD (7 - j % 8) := by
  induction vs generalizing buf i with
  | nil => rfl
  | cons v vs ih => rw [storeFrameBits, ih _ (by omega), frameBit_storeFrameBit _ _ _ hj, if_neg (by omega)]

/-- Every bit stored stands in its place. -/
theorem frameBit_storeFrameBits (vs : List Bool) (buf : Vector Byte 5) {i k : Nat} (hk : k < vs.length) (hik : i + k < 40) :
    ((storeFrameBits buf i vs).getD ((i + k) / 8) 0).getLsbD (7 - (i + k) % 8) = vs[k] := by
  induction vs generalizing buf i k with
  | nil => exact absurd hk (Nat.not_lt_zero k)
  | cons v vs ih =>
    rw [storeFrameBits]
    cases k with
    | zero => rw [frameBit_storeFrameBits_of_lt vs _ hik (by omega), frameBit_storeFrameBit _ _ _ hik]; simp
    | succ k =>
      have hnext := ih (storeFrameBit buf i v) (i := i + 1) (k := k) (by simpa using hk) (by omega)
      rw [show i + (k + 1) = i + 1 + k by omega, hnext, List.getElem_cons_succ]

/-! ## The checksum -/

theorem checksumOk_iff (buf : Vector Byte 5) :
    checksumOk buf = true ↔ sumMatches buf[0] buf[1] buf[2] buf[3] buf[4] := by
  simp [checksumOk, sumMatches]

theorem checkAndCommit_of_match {s : State} (h : sumMatches s.sws.buf[0] s.sws.buf[1] s.sws.buf[2] s.sws.buf[3] s.sws.buf[4]) :
    checkAndCommit s = .ok (commitReading s) := by
  rw [checkAndCommit, if_pos ((checksumOk_iff _).mpr h)]

theorem checkAndCommit_of_mismatch {s : State}
    (h : ¬ sumMatches s.sws.buf[0] s.sws.buf[1] s.sws.buf[2] s.sws.buf[3] s.sws.buf[4]) :
    checkAndCommit s = .err .checksumError s := by
  rw [checkAndCommit, if_neg fun hc => h ((checksumOk_iff _).mp hc)]

/-- R154: another value of one byte alone makes the sum another, or byte 4. -/
theorem not_sumMatches_of_corrupted {buf : Vector Byte 5} {k : Nat} {b : Byte} (hk : k < 5)
    (h : sumMatches buf[0] buf[1] buf[2] buf[3] buf[4]) (hb : buf.getD k 0 ≠ b) :
    ¬ sumMatches (buf.setIfInBounds k b)[0] (buf.setIfInBounds k b)[1] (buf.setIfInBounds k b)[2]
      (buf.setIfInBounds k b)[3] (buf.setIfInBounds k b)[4] := by
  unfold sumMatches at *
  rw [bufferByte_eq_getElem _ hk] at hb
  obtain rfl | rfl | rfl | rfl | rfl : k = 0 ∨ k = 1 ∨ k = 2 ∨ k = 3 ∨ k = 4 := by omega
  all_goals
    simp
    bv_omega

end Sys2Proof.Machine
end

section
/-! The tick machine of SWS (`40_single_wire.md` R151) statement by statement: from the label of a statement its ticks lead to
where the statement of `SW_MEASURE` ends. -/

namespace Sys2Proof.Machine

open Sys2Proof.Claims

/-! ## Ticks -/

/-- Ticks of the machine lead from `s` to `t`, the sequencer being idle nowhere on the way. -/
def TicksTo (s t : State) : Prop := ∃ n, swTick^[n] s = t ∧ ∀ m, m < n → (swTick^[m] s).sws.seq ≠ .idle

theorem TicksTo.refl (s : State) : TicksTo s s := ⟨0, rfl, nofun⟩

/-- A tick, and the ticks after it. -/
theorem TicksTo.cons {s t : State} (hs : s.sws.seq ≠ .idle) (h : TicksTo (swTick s) t) : TicksTo s t := by
  obtain ⟨n, hn, hbusy⟩ := h
  refine ⟨n + 1, hn, fun m hm => ?_⟩
  cases m with
  | zero => exact hs
  | succ m => exact hbusy m (by omega)

theorem TicksTo.trans {s t u : State} (h : TicksTo s t) (k : TicksTo t u) : TicksTo s u := by
  obtain ⟨n, hn, hbusy⟩ := h
  induction n generalizing s with
  | zero =>
    cases hn
    exact k
  | succ n ih => exact .cons (hbusy 0 n.succ_pos) (ih hn fun m hm => hbusy (m + 1) (by omega))

/-- The rule of a statement: the ticks to its end, then, where it completed, the ticks of what follows. -/
theorem TicksTo.goOn {s : State} {r : Run} {next next' : State → State} (h : TicksTo s (r.goOn .sws next))
    (hn : ∀ m, r = .ok m → TicksTo (next m) (next' m)) : TicksTo s (r.goOn .sws next') := by
  cases r with
  | ok m => exact h.trans (hn m rfl)
  | err e m => exact h

/-! ## A tick is one tick of the clock -/

theorem swEnterAckL_tick (s : State) : (swEnterAckL s).tick = s.tick := by simp [swEnterAckL, swEnter]

theorem swEnterStartH_tick (s : State) : (swEnterStartH s).tick = s.tick := by
  unfold swEnterStartH
  dsimp only
  split
  · exact swEnterAckL_tick _
  · rfl

theorem swEnterStartL_tick (s : State) : (swEnterStartL s).tick = s.tick := by
  unfold swEnterStartL
  dsimp only
  split
  · exact swEnterStartH_tick _
  · rfl

theorem swEnterPre_tick (s : State) : (swEnterPre s).tick = s.tick := by
  unfold swEnterPre
  dsimp only
  split
  · exact swEnterStartL_tick _
  · rfl

theorem swDriven_tick {next : State → State} (n : Nat) (s : State) (hn : ∀ m, (next m).tick = m.tick) :
    (swDriven n next s).tick = s.tick + 1 := by
  unfold swDriven
  dsimp only
  split
  · exact hn _
  · rfl

theorem swWaiting_tick {next : State → State} (level : Bool) (bound : Nat) (s : State)
    (hn : ∀ m, (next m).tick = m.tick) : (swWaiting level bound next s).tick = s.tick + 1 := by
  have hs := (lineSample_sampled s).tick
  unfold swWaiting
  dsimp only
  split
  · exact (hn _).trans hs
  · split <;> exact hs

theorem checkAndCommit_finish_tick (s : State) (p : State → List Byte) :
    ((checkAndCommit s).finish .sws p).tick = s.tick := by
  unfold checkAndCommit
  split <;> rfl

theorem swMeasuring_tick (s : State) : (swMeasuring s).tick = s.tick + 1 := by
  have hs := (lineSample_sampled s).tick
  unfold swMeasuring
  dsimp only
  split
  · split <;> exact hs
  · split
    · exact hs
    · exact (checkAndCommit_finish_tick _ _).trans hs

theorem swTick_tick {s : State} (h : s.sws.seq ≠ .idle) : (swTick s).tick = s.tick + 1 := by
  unfold swTick
  split
  case h_1 hq => exact absurd hq h
  case h_2 => exact swDriven_tick _ s swEnterStartL_tick
  case h_3 => exact swDriven_tick _ s swEnterStartH_tick
  case h_4 => exact swDriven_tick _ s swEnterAckL_tick
  case h_5 | h_6 | h_7 | h_8 => exact swWaiting_tick _ _ s fun _ => rfl
  case h_9 => exact swMeasuring_tick s

/-- n ticks of a machine that is not idle are n ticks of the clock. -/
theorem iterate_swTick_tick (n : Nat) {s : State} (h : ∀ m, m < n → (swTick^[m] s).sws.seq ≠ .idle) :
    (swTick^[n] s).tick = s.tick + BitVec.ofNat 64 n := by
  induction n generalizing s with
  | zero => exact (BitVec.add_zero s.tick).symm
  | succ n ih =>
    have hfirst : s.sws.seq ≠ .idle := h 0 n.succ_pos
    rw [Function.iterate_succ_apply, ih fun m hm => h (m + 1) (by omega), swTick_tick hfirst]
    exact tick_succ s.tick n

/-! ## The driven phases -/

theorem tickBy_zero (s : State) : s.tickBy 0 = s :=
  congrArg (fun x => { s with tick := x }) (BitVec.add_zero s.tick)

theorem tickBy_one_tickBy (s : State) (n : Nat) : (s.tickBy 1).tickBy n = s.tickBy (n + 1) :=
  congrArg (fun x => { s with tick := x }) (tick_succ s.tick n)

theorem swDriven_last {n : Nat} {next : State → State} {s : State} (h : s.sws.cnt + 1 = n) :
    swDriven n next s = next (((s.tickBy 1).swCount n).log (.delay n)) := by
  subst h
  exact if_pos le_rfl

theorem swDriven_more {n : Nat} {next : State → State} {s : State} (h : s.sws.cnt + 1 < n) :
    swDriven n next s = (s.tickBy 1).swCount (s.sws.cnt + 1) :=
  if_neg (Nat.not_le.mpr h)

/-- The last k + 1 ticks of a driven phase of n ticks. -/
theorem ticksTo_driven {q : SwSeq} {n : Nat} {next : State → State} (hq : q ≠ .idle) (k : Nat) {s : State}
    (htick : ∀ m : State, m.sws.seq = q → m.cfg = s.cfg → swTick m = swDriven n next m)
    (hs : s.sws.seq = q) (hcnt : s.sws.cnt + (k + 1) = n) :
    TicksTo s (next (((s.tickBy (k + 1)).swCount n).log (.delay n))) := by
  refine .cons (hs ▸ hq) ?_
  rw [htick s hs rfl]
  induction k generalizing s with
  | zero =>
    rw [swDriven_last hcnt]
    exact .refl _
  | succ k ih =>
    rw [swDriven_more (by omega), ← tickBy_one_tickBy s (k + 1)]
    refine .cons (hs ▸ hq) ?_
    rw [htick ((s.tickBy 1).swCount (s.sws.cnt + 1)) hs rfl]
    exact ih (s := (s.tickBy 1).swCount (s.sws.cnt + 1)) htick hs (by rw [swCount_sws]; dsimp only; omega)

/-- A driven phase of n ticks, over at once where n is 0. -/
theorem ticksTo_phase {q : SwSeq} {n : Nat} {next : State → State} (hq : q ≠ .idle) {s : State}
    (htick : ∀ m : State, m.sws.seq = q → m.cfg = s.cfg → swTick m = swDriven n next m) :
    TicksTo (if n = 0 then next ((swEnter q s).log (.delay 0)) else swEnter q s)
      (next ((delay n (s.swAt q)).swCount n)) := by
  cases n with
  | zero =>
    rw [if_pos rfl, delay, tickBy_zero]
    exact .refl _
  | succ k =>
    rw [if_neg k.succ_ne_zero]
    exact ticksTo_driven hq k (s := swEnter q s) htick rfl (Nat.zero_add _)

theorem ticksTo_pre (s : State) :
    TicksTo (swEnterPre s) (swEnterStartL (delay s.cfg.swIdleHigh (lineDrive true (s.swAt .pre)))) :=
  ticksTo_phase (q := .pre) nofun (s := lineDrive true s) (next := swEnterStartL) fun m hm hc => by
    rw [swTick, hm, hc]
    rfl

theorem ticksTo_startL (s : State) :
    TicksTo (swEnterStartL s) (swEnterStartH (delay s.cfg.swStartLow (lineDrive false (s.swAt .startL)))) :=
  ticksTo_phase (q := .startL) nofun (s := lineDrive false s) (next := swEnterStartH) fun m hm hc => by
    rw [swTick, hm, hc]
    rfl

theorem ticksTo_startH (s : State) :
    TicksTo (swEnterStartH s) (swEnterAckL (delay s.cfg.swStartHigh (lineDrive true (s.swAt .startH)))) :=
  ticksTo_phase (q := .startH) nofun (s := lineDrive true s) (next := swEnterAckL) fun m hm hc => by
    rw [swTick, hm, hc]
    rfl

/-- The start pulse. -/
theorem ticksTo_startPulse (s : State) : TicksTo (swEnterPre s) (swEnter .ackL (startPulse s)) :=
  (ticksTo_pre s).trans ((ticksTo_startL _).trans (ticksTo_startH _))

/-! ## The waits -/

/-- The end of a bounded wait: `next` where the level came, `TimeoutError` where it did not. -/
def afterWait (next : State → State) (r : Bool × State) : State :=
  if r.1 then next r.2 else r.2.fail .sws .timeoutError

theorem goOn_awaitLevel (q : SwSeq) (level : Bool) (bound : Nat) (next : State → State) (s : State) :
    (awaitLevel q level bound s).goOn .sws next = afterWait next (waitLevel level bound (swEnter q s)) :=
  apply_ite (Run.goOn .sws next) _ _ _

/-- The rest of a wait of which k + 1 samples are left. -/
theorem ticksTo_waitLevel {q : SwSeq} {level : Bool} {bound : Nat} {next : State → State} (hq : q ≠ .idle) (k : Nat)
    {s : State} (htick : ∀ m : State, m.sws.seq = q → m.cfg = s.cfg → swTick m = swWaiting level bound next m)
    (hs : s.sws.seq = q) (hcnt : s.sws.cnt + (k + 1) = bound) :
    TicksTo s (afterWait next (waitLevel level (k + 1) s)) := by
  induction k generalizing s with
  | zero =>
    obtain ⟨-, -, hsws, -⟩ := lineSample_frame s
    refine .cons (hs ▸ hq) ?_
    rw [htick s hs rfl, swWaiting, waitLevel]
    split
    · exact .refl _
    · rw [if_pos (by simp [hsws]; omega)]
      exact .refl _
  | succ k ih =>
    obtain ⟨hcfg, -, hsws, -⟩ := lineSample_frame s
    refine .cons (hs ▸ hq) ?_
    rw [htick s hs rfl, swWaiting, waitLevel]
    split
    · exact .refl _
    · rw [if_neg (by simp [hsws]; omega)]
      refine ih (fun m hm hc => htick m hm (hc.trans hcfg)) ?_ ?_
      · simpa [hsws] using hs
      · simp only [swCount_sws, hsws]
        omega

/-- A wait of `SW_MEASURE`, from its label. -/
theorem ticksTo_awaitLevel {q : SwSeq} {level : Bool} {bound : Nat} {next : State → State} {s : State} (hq : q ≠ .idle)
    (hbound : 1 ≤ bound) (htick : ∀ m : State, m.sws.seq = q → m.cfg = s.cfg → swTick m = swWaiting level bound next m) :
    TicksTo (swEnter q s) ((awaitLevel q level bound s).goOn .sws next) := by
  obtain ⟨k, rfl⟩ : ∃ k, bound = k + 1 := ⟨bound - 1, by omega⟩
  rw [goOn_awaitLevel]
  exact ticksTo_waitLevel hq k (s := swEnter q s) htick rfl (Nat.zero_add _)

/-! ## The frame -/

/-- After a bit is stored: the next bit, or `CHECK` and `COMMIT` (`40_single_wire.md` R151). -/
def afterStore (s : State) : State :=
  if s.sws.bit < 40 then swEnter .fall s else (checkAndCommit s).finish .sws noPayload

/-- A tick of `HIGH` is a tick of a wait for the line to be low. -/
theorem swMeasuring_eq (s : State) :
    swMeasuring s = swWaiting false s.cfg.swNBit (fun m => afterStore (storeBit m)) s := by
  have hcfg := lineSample_cfg s
  unfold swMeasuring swWaiting
  cases h : (lineSample s).1 with
  | false => simp [h, afterStore]
  | true =>
    simp [h, hcfg]
    rfl

theorem ticksTo_highPhase {s : State} (hbit : 1 ≤ s.cfg.swNBit) :
    TicksTo (swEnter .high s) ((highPhase s).goOn .sws afterStore) := by
  rw [highPhase_eq, Run.goOn_andThen]
  exact ticksTo_awaitLevel (q := .high) nofun hbit fun m hm hc => by rw [swTick, hm, ← hc]; exact swMeasuring_eq m

theorem ticksTo_readBit {s : State} (hbit : 1 ≤ s.cfg.swNBit) :
    TicksTo (swEnter .fall s) ((readBit s).goOn .sws afterStore) := by
  have fall : TicksTo (swEnter .fall s) ((awaitLevel .fall false s.cfg.swNBit s).goOn .sws (swEnter .rise)) :=
    ticksTo_awaitLevel nofun hbit fun m hm hc => by rw [swTick, hm, hc]
  have rise (m : State) (hm : 1 ≤ m.cfg.swNBit) :
      TicksTo (swEnter .rise m) ((awaitLevel .rise true m.cfg.swNBit m).goOn .sws (swEnter .high)) :=
    ticksTo_awaitLevel nofun hm fun k hk hc => by rw [swTick, hk, hc]
  rw [readBit, Run.goOn_andThen, Run.goOn_andThen]
  refine fall.goOn fun m hm => ?_
  have hbit' : 1 ≤ m.cfg.swNBit := (awaitLevel_ok hm).1 ▸ hbit
  exact (rise m hbit').goOn fun k hk => ticksTo_highPhase ((awaitLevel_ok hk).1 ▸ hbit')

/-- A bit that is read writes no parameter and counts. -/
theorem readBit_ok {s m : State} (h : readBit s = .ok m) : m.cfg = s.cfg ∧ m.sws.bit = s.sws.bit + 1 := by
  obtain ⟨b, hb, hhigh⟩ := Run.andThen_eq_ok h
  obtain ⟨a, ha, hrise⟩ := Run.andThen_eq_ok hb
  rw [highPhase_eq] at hhigh
  obtain ⟨c, hc, hstore⟩ := Run.andThen_eq_ok hhigh
  cases hstore
  obtain ⟨hcfg, hbit⟩ := awaitLevel_ok ha
  obtain ⟨hcfg', hbit'⟩ := awaitLevel_ok hrise
  obtain ⟨hcfg'', hbit''⟩ := awaitLevel_ok hc
  exact ⟨hcfg''.trans (hcfg'.trans hcfg), congrArg (· + 1) (hbit''.trans (hbit'.trans hbit))⟩

/-- The last n bits of a frame, then `CHECK` and `COMMIT`. -/
theorem ticksTo_readBits (n : Nat) {s : State} (hbit : 1 ≤ s.cfg.swNBit) (hn : s.sws.bit + n = 40) :
    TicksTo (afterStore s) (((readBits n s).andThen checkAndCommit).finish .sws noPayload) := by
  induction n generalizing s with
  | zero =>
    rw [afterStore, if_neg (by omega)]
    exact .refl _
  | succ n ih =>
    rw [afterStore, if_pos (by omega), readBits, Run.andThen_assoc, Run.finish, Run.goOn_andThen]
    refine (ticksTo_readBit hbit).goOn fun m hm => ?_
    obtain ⟨hcfg, hcount⟩ := readBit_ok hm
    exact ih (hcfg ▸ hbit) (by omega)

/-! ## The measurement -/

theorem ticksTo_handshake {s : State} (hack : 1 ≤ s.cfg.swNAck) (hbit : 1 ≤ s.cfg.swNBit) :
    TicksTo (swEnterPre s) ((handshake s).finish .sws noPayload) := by
  have ackL : TicksTo (swEnter .ackL (startPulse s))
      ((awaitLevel .ackL false s.cfg.swNAck (startPulse s)).goOn .sws (swEnter .ackH)) :=
    ticksTo_awaitLevel nofun hack fun m hm hc => by rw [swTick, hm, hc, startPulse_cfg]
  have ackH (m : State) (hm : 1 ≤ m.cfg.swNAck) : TicksTo (swEnter .ackH m)
      ((awaitLevel .ackH true m.cfg.swNAck m).goOn .sws fun s => swEnter .fall (firstBit s)) :=
    ticksTo_awaitLevel nofun hm fun k hk hc => by rw [swTick, hk, hc]
  refine (ticksTo_startPulse s).trans ?_
  rw [handshake, Run.andThen_assoc, Run.finish, Run.goOn_andThen, Run.goOn_andThen]
  refine ackL.goOn fun m hm => ?_
  have hcfg : m.cfg = s.cfg := (awaitLevel_ok hm).1.trans (startPulse_cfg s)
  refine (ackH m (hcfg ▸ hack)).goOn fun k hk => ?_
  exact ticksTo_readBits 40 (s := firstBit k) ((awaitLevel_ok hk).1.trans hcfg ▸ hbit) rfl

theorem finish_sws_idle (r : Run) (p : State → List Byte) : (r.finish .sws p).sws.seq = .idle := by
  cases r <;> rfl

end Sys2Proof.Machine
end

section
/-! A well-behaved sensor's frame (`40_single_wire.md` R153): every wait finds its level, and each bit is stored by the length of its
high phase. -/

namespace Sys2Proof.Machine

open Sys2Proof.Claims

/-! ## Hearing levels -/

theorem Heard.trans {l l' rest rest' : List Bool} {s t u : State} (h : Heard l rest s t) (h' : Heard l' rest' t u) :
    Heard (l ++ l') rest' s u where
  toSampled := by
    rw [List.reverse_append]
    exact h.toSampled.trans h'.toSampled
  env := by rw [h'.env, h.env]

theorem Heard.line {l rest : List Bool} {s t : State} (h : Heard l rest s t) : t.env.line = rest := by rw [h.env]

/-- Storing a bit moves no more than the registers of SWS. -/
theorem Heard.storeBit {l rest : List Bool} {s t : State} (h : Heard l rest s t) : Heard l rest s (storeBit t) :=
  ⟨h.toSampled.withSws _, h.env⟩

/-- Setting `SW_BIT` moves no more than that. -/
theorem Heard.of_firstBit {l rest : List Bool} {s t : State} (h : Heard l rest (firstBit s) t) : Heard l rest s t :=
  ⟨⟨h.cfg, h.busy, h.cbs, h.dsp, h.port, h.i2c, h.spi, h.tick, h.obs⟩, h.env⟩

/-- A wait within its bound hears the other level, then its own. -/
theorem awaitLevel_hears (q : SwSeq) (level : Bool) {bound k : Nat} {rest : List Bool} {s : State} (hk : k < bound)
    (h : s.env.line = List.replicate k (!level) ++ level :: rest) :
    ∃ t, awaitLevel q level bound s = .ok t ∧ Heard (List.replicate k (!level) ++ [level]) rest s t
      ∧ t.sws = { s.sws with seq := q, cnt := k } := by
  have hw := waitLevel_found level k bound rest hk ((s.swAt q).swCount 0) h
  refine ⟨(waitLevel level bound ((s.swAt q).swCount 0)).2, ?_, ?_, ?_⟩
  · unfold awaitLevel
    rw [hw]
    rfl
  · rw [hw]
    constructor
    · constructor <;> simp
    · rfl
  · rw [hw]
    simp

/-- A high phase of k more ticks, and the bit it stores. -/
theorem highPhase_hears {k : Nat} {rest : List Bool} {s : State} (hk : k < s.cfg.swNBit)
    (h : s.env.line = List.replicate k true ++ false :: rest) :
    ∃ t, highPhase s = .ok t ∧ Heard (List.replicate k true ++ [false]) rest s t
      ∧ t.sws = { s.sws with
          seq := .high, cnt := k, buf := storeFrameBit s.sws.buf s.sws.bit (bitOf s.cfg k), bit := s.sws.bit + 1 } := by
  obtain ⟨t, hok, heard, hsws⟩ := awaitLevel_hears .high false hk h
  refine ⟨storeBit t, ?_, heard.storeBit, ?_⟩
  · rw [highPhase_eq, hok]
    rfl
  · rw [storeBit_sws, hsws, heard.cfg]

/-! ## Bits -/

/-- The levels of some bits of a frame: each low, then high (`40_single_wire.md` R153). -/
def bitLevels (bits : List (Nat × Nat)) : List Bool :=
  bits.flatMap fun b => List.replicate b.1 false ++ List.replicate b.2 true

/-- The values the bits of a frame decode to. -/
def bitValues (c : Config) (bits : List (Nat × Nat)) : List Bool := bits.map fun b => bitOf c (b.2 - 1)

/-- One bit, with a ticks of the high phase before it left: what it hears, to the first low tick after it. -/
theorem readBit_hears {a l h : Nat} {rest : List Bool} {s : State} (ha : a < s.cfg.swNBit)
    (hl : 1 ≤ l ∧ l ≤ s.cfg.swNBit) (hh : 1 ≤ h ∧ h ≤ s.cfg.swNBit)
    (hline : s.env.line = List.replicate a true ++ bitLevels [(l, h)] ++ false :: rest) :
    ∃ t, readBit s = .ok t ∧ Heard (List.replicate a true ++ bitLevels [(l, h)] ++ [false]) rest s t
      ∧ t.sws.oe = s.sws.oe ∧ t.sws.bit = s.sws.bit + 1
      ∧ t.sws.buf = storeFrameBit s.sws.buf s.sws.bit (bitOf s.cfg (h - 1)) := by
  obtain ⟨l, rfl⟩ : ∃ k, l = k + 1 := ⟨l - 1, by omega⟩
  obtain ⟨h, rfl⟩ : ∃ k, h = k + 1 := ⟨h - 1, by omega⟩
  obtain ⟨t, ht, heard, hsws⟩ := awaitLevel_hears .fall false ha (s := s)
    (rest := List.replicate l false ++ true :: (List.replicate h true ++ false :: rest))
    (by simp [hline, bitLevels, List.replicate_succ])
  obtain ⟨u, hu, heard', hsws'⟩ := awaitLevel_hears .rise true (bound := t.cfg.swNBit)
    (by rw [heard.cfg]; omega) heard.line
  have hcfg : u.cfg = s.cfg := heard'.cfg.trans heard.cfg
  obtain ⟨v, hv, heard'', hsws''⟩ := highPhase_hears (by rw [hcfg]; omega) heard'.line
  refine ⟨v, ?_, ?_, ?_, ?_, ?_⟩
  · rw [readBit, ht, Run.ok_andThen, hu, Run.ok_andThen, hv]
  · have hlevels : List.replicate a true ++ bitLevels [(l + 1, h + 1)] ++ [false]
        = List.replicate a true ++ [false] ++ (List.replicate l false ++ [true]) ++ (List.replicate h true ++ [false]) := by
      simp [bitLevels, List.replicate_succ]
    rw [hlevels]
    exact (heard.trans heard').trans heard''
  · simp only [hsws'', hsws', hsws]
  · simp only [hsws'', hsws', hsws]
  · simp only [hsws'', hsws', hsws, hcfg, Nat.add_sub_cancel]

/-- The bits of a frame, with a ticks of the high phase before them left. Of each later bit the one before has consumed the first low
tick. -/
theorem readBits_hears (bits : List (Nat × Nat)) {a l h : Nat} {rest : List Bool} {s : State} (ha : a < s.cfg.swNBit)
    (hl : 1 ≤ l ∧ l ≤ s.cfg.swNBit) (hh : 1 ≤ h ∧ h ≤ s.cfg.swNBit)
    (hbits : ∀ b ∈ bits, (2 ≤ b.1 ∧ b.1 ≤ s.cfg.swNBit + 1) ∧ 1 ≤ b.2 ∧ b.2 ≤ s.cfg.swNBit)
    (hline : s.env.line = List.replicate a true ++ bitLevels ((l, h) :: bits) ++ false :: rest) :
    ∃ t, readBits (bits.length + 1) s = .ok t
      ∧ Heard (List.replicate a true ++ bitLevels ((l, h) :: bits) ++ [false]) rest s t
      ∧ t.sws.oe = s.sws.oe ∧ t.sws.buf = storeFrameBits s.sws.buf s.sws.bit (bitValues s.cfg ((l, h) :: bits)) := by
  induction bits generalizing a l h s with
  | nil =>
    obtain ⟨t, ht, heard, hoe, -, hbuf⟩ := readBit_hears ha hl hh hline
    exact ⟨t, by rw [List.length_nil, readBits, ht]; rfl, heard, hoe, hbuf⟩
  | cons b bits ih =>
    obtain ⟨l', h'⟩ := b
    obtain ⟨⟨hl', hh'⟩, hmore⟩ := List.forall_mem_cons.mp hbits
    obtain ⟨k, rfl⟩ : ∃ k, l' = k + 1 := ⟨l' - 1, by omega⟩
    obtain ⟨t, ht, heard, hoe, hbit, hbuf⟩ := readBit_hears ha hl hh
      (rest := List.replicate 0 true ++ bitLevels ((k, h') :: bits) ++ false :: rest)
      (by simp [hline, bitLevels, List.replicate_succ])
    have hcfg : t.cfg = s.cfg := heard.cfg
    obtain ⟨u, hu, heard', hoe', hbuf'⟩ := ih (a := 0) (l := k) (h := h') (s := t) (by rw [hcfg]; omega)
      (by rw [hcfg]; omega) (by rw [hcfg]; exact hh') (by rw [hcfg]; exact hmore) heard.line
    refine ⟨u, ?_, ?_, hoe'.trans hoe, ?_⟩
    · rw [List.length_cons, readBits, ht, Run.ok_andThen, hu]
    · have hlevels : List.replicate a true ++ bitLevels ((l, h) :: (k + 1, h') :: bits) ++ [false]
          = List.replicate a true ++ bitLevels [(l, h)] ++ [false]
            ++ (List.replicate 0 true ++ bitLevels ((k, h') :: bits) ++ [false]) := by
        simp [bitLevels, List.replicate_succ]
      rw [hlevels]
      exact heard.trans heard'
    · rw [hbuf', hbuf, hbit, hcfg]
      rfl

/-! ## The frame -/

theorem SensorFrame.levels_eq (f : SensorFrame) :
    f.levels = List.replicate f.d0 true ++ List.replicate f.dl false ++ List.replicate f.dh true ++ bitLevels f.bits
      ++ [false] := rfl

/-- The durations of R153, one by one. -/
theorem SensorFrame.wellBehaved_cases {c : Config} {f : SensorFrame} (h : f.wellBehaved c = true) :
    f.d0 < c.swNAck ∧ (1 ≤ f.dl ∧ f.dl ≤ c.swNAck) ∧ (1 ≤ f.dh ∧ f.dh ≤ c.swNBit)
      ∧ ∃ l h bits, f.bits = (l, h) :: bits ∧ bits.length = 39 ∧ (1 ≤ l ∧ l ≤ c.swNBit) ∧ (1 ≤ h ∧ h ≤ c.swNBit)
        ∧ ∀ b ∈ bits, (2 ≤ b.1 ∧ b.1 ≤ c.swNBit + 1) ∧ 1 ≤ b.2 ∧ b.2 ≤ c.swNBit := by
  simp only [SensorFrame.wellBehaved, Bool.and_eq_true, decide_eq_true_eq] at h
  obtain ⟨⟨⟨⟨⟨⟨hd0, hdl⟩, hdh⟩, hlength⟩, hfirst⟩, hlow⟩, hhigh⟩ := h
  cases hb : f.bits with
  | nil => simp [hb] at hlength
  | cons b bits =>
    simp only [hb, List.length_cons, List.take_succ_cons, List.take_zero, List.drop_succ_cons, List.drop_zero,
      List.all_cons, List.all_nil, List.all_eq_true, Bool.and_eq_true, decide_eq_true_eq] at hlength hfirst hlow hhigh
    exact ⟨hd0, hdl, hdh, b.1, b.2, bits, rfl, by omega, hfirst.1, hhigh.1, fun x hx => ⟨hlow x hx, hhigh.2 x hx⟩⟩

/-- R153: no wait times out; the frame is heard to its end, and its bits are in the buffer when `CHECK` looks at it. -/
theorem handshake_hears {s : State} {f : SensorFrame} {rest : List Bool} (hf : f.wellBehaved s.cfg = true)
    (hline : s.env.line = f.levels ++ rest) :
    ∃ m, handshake s = checkAndCommit m ∧ Heard f.levels rest (startPulse s) m ∧ m.sws.oe = false
      ∧ m.sws.buf = storeFrameBits s.sws.buf 0 (bitValues s.cfg f.bits) := by
  obtain ⟨hd0, hdl, hdh, l, h, bits, hbits, hlength, hl, hh, hmore⟩ := SensorFrame.wellBehaved_cases hf
  obtain ⟨dl, hdl'⟩ : ∃ k, f.dl = k + 1 := ⟨f.dl - 1, by omega⟩
  obtain ⟨dh, hdh'⟩ : ∃ k, f.dh = k + 1 := ⟨f.dh - 1, by omega⟩
  obtain ⟨t, ht, heard, hsws⟩ := awaitLevel_hears .ackL false hd0 (s := startPulse s)
    (rest := List.replicate dl false ++ true :: (List.replicate dh true ++ bitLevels ((l, h) :: bits) ++ false :: rest))
    (by simp [hline, SensorFrame.levels_eq, hdl', hdh', hbits, List.replicate_succ])
  have htcfg : t.cfg = s.cfg := heard.cfg.trans (startPulse_cfg s)
  obtain ⟨u, hu, heard', hsws'⟩ := awaitLevel_hears .ackH true (bound := t.cfg.swNAck) (by rw [htcfg]; omega) heard.line
  have hucfg : (firstBit u).cfg = s.cfg := heard'.cfg.trans htcfg
  obtain ⟨m, hm, heard'', hoe, hbuf⟩ := readBits_hears bits (s := firstBit u) (by rw [hucfg]; omega) (by rwa [hucfg])
    (by rwa [hucfg]) (by rwa [hucfg]) heard'.line
  rw [hlength] at hm
  have hframe : Heard (List.replicate dh true ++ bitLevels ((l, h) :: bits) ++ [false]) rest u m :=
    heard''.of_firstBit
  refine ⟨m, ?_, ?_, ?_, ?_⟩
  · rw [handshake, ht, Run.ok_andThen, hu, Run.ok_andThen, hm, Run.ok_andThen]
  · have hlevels : f.levels = List.replicate f.d0 true ++ [false] ++ (List.replicate dl false ++ [true])
        ++ (List.replicate dh true ++ bitLevels ((l, h) :: bits) ++ [false]) := by
      simp [SensorFrame.levels_eq, hdl', hdh', hbits, List.replicate_succ]
    rw [hlevels]
    exact (heard.trans heard').trans hframe
  · rw [hoe, firstBit_sws, hsws', hsws, startPulse_sws]
  · rw [hbuf, hucfg, hbits, firstBit_sws, hsws', hsws, startPulse_sws]

/-- Bit i of the buffer is bit i of the frame. -/
theorem frameBit_bitValues {c : Config} {f : SensorFrame} (hlength : f.bits.length = 40) (buf : Vector Byte 5) {i : Nat}
    (hi : i < 40) :
    ((storeFrameBits buf 0 (bitValues c f.bits)).getD (i / 8) 0).getLsbD (7 - i % 8) = f.bit c i := by
  have hib : i < f.bits.length := by omega
  have hstored := frameBit_storeFrameBits (bitValues c f.bits) buf (i := 0) (k := i) (by simpa [bitValues] using hib) (by omega)
  rw [Nat.zero_add] at hstored
  rw [hstored]
  simp only [SensorFrame.bit, bitValues, List.getElem_map, List.getD_eq_getElem _ _ hib, bitOf]
  exact decide_eq_decide.mpr (by omega)

end Sys2Proof.Machine
end

section
/-! The statements of `40_single_wire.md`. -/

namespace Sys2Proof.Proofs

open Sys2Proof.Machine Sys2Proof.Claims

/-- Settles O22: a closed gate only answers, and an open one begins with the pulse. -/
theorem closedGateIsANoOp : Obligations.ClosedGateIsANoOp := by
  intro s
  refine ⟨exec_swMeasure_of_shut, fun h => ?_⟩
  obtain ⟨l, m, hm, -, ⟨he, -⟩ | ⟨e, -, he, -⟩⟩ := exec_swMeasure_cases h
  · exact ⟨_, l.map .lineSample, he, hm.events_after_startPulse⟩
  · exact ⟨_, l.map .lineSample, he, hm.events_after_startPulse⟩

/-- Settles O23: the frame is in the buffer when `CHECK` looks at it, and the checksum decides. -/
theorem wellBehavedSensorIsDecoded : Obligations.WellBehavedSensorIsDecoded := by
  intro s f rest hopen hf hline
  obtain ⟨m, hm, heard, hoe, hbuf⟩ := handshake_hears hf hline
  have hlength : f.bits.length = 40 := by
    obtain ⟨-, -, -, l, h, bits, hbits, hlength, -⟩ := SensorFrame.wellBehaved_cases hf
    rw [hbits, List.length_cons, hlength]
  have hvalue (i : Nat) (hi : i < 40) : (m.sws.buf.getD (i / 8) 0).getLsbD (7 - i % 8) = f.bit s.cfg i := by
    rw [hbuf]
    exact frameBit_bitValues hlength _ hi
  have htick : m.tick = s.tick + BitVec.ofNat 64 (pulseTicks s.cfg + f.ticks) := by
    simpa [SensorFrame.ticks] using heard.tick_after_startPulse
  have hevents : m.obs.events = (f.levels.map Event.lineSample).reverse ++ (pulseEvents s.cfg).reverse ++ s.obs.events := by
    simpa using heard.events_after_startPulse
  have hresponses := heard.responses_after_startPulse
  have hcfg := heard.cfg.trans (startPulse_cfg s)
  have hcbs := heard.cbs.trans (startPulse_cbs s)
  have hdsp := heard.dsp.trans (startPulse_dsp s)
  have henv : m.env = { s.env with line := rest } := by rw [heard.env, startPulse_env]
  by_cases hsum : sumMatches m.sws.buf[0] m.sws.buf[1] m.sws.buf[2] m.sws.buf[3] m.sws.buf[4]
  · have hexec : exec .swMeasure s = .next ((commitReading m).respond .sws []) := by
      rw [exec_swMeasure_of_open hopen, hm, checkAndCommit_of_match hsum]
      rfl
    exact ⟨_, hexec, hvalue, htick, hevents, rfl, rfl, hoe, hcfg, hcbs, hdsp, henv,
      fun _ => ⟨congrArg _ hresponses, rfl, rfl, rfl, rfl⟩, fun hno => absurd hsum hno⟩
  · have hmeasure : swMeasure s = .err .checksumError m := by
      rw [swMeasure_of_open hopen, hm, checkAndCommit_of_mismatch hsum]
    have hexec : exec .swMeasure s = .next (m.fail .sws .checksumError) := by
      rw [exec_swMeasure_of_open hopen, ← swMeasure_of_open hopen, hmeasure]
      rfl
    have hkept : ReadingKept s m := by
      have hpost := swMeasure_post s
      rw [hmeasure] at hpost
      exact hpost.2
    exact ⟨_, hexec, hvalue, htick, hevents, rfl, rfl, rfl, hcfg, hcbs, hdsp, henv,
      fun hyes => absurd hyes hsum, fun _ => ⟨congrArg _ hresponses, hkept.hum, hkept.temp, hkept.valid, hkept.ts⟩⟩

/-- Settles O24: the first wait takes its whole bound of high samples. -/
theorem absentSensorTimesOut : Obligations.AbsentSensorTimesOut := by
  intro s rest h hline
  have hpulse : (startPulse s).env.line = List.replicate s.cfg.swNAck true ++ rest := by rw [startPulse_env, hline]
  obtain ⟨m, hm, heard, hsws⟩ := awaitLevel_timeout .ackL false s.cfg.swNAck hpulse
  have hfail : exec .swMeasure s = .next (m.fail .sws .timeoutError) := by
    rw [exec_swMeasure_of_open h, handshake, hm]
    rfl
  refine ⟨_, hfail, congrArg _ heard.responses_after_startPulse, ?_, ?_, ?_, heard.cfg.trans (startPulse_cfg s), rfl,
    heard.cbs.trans (startPulse_cbs s), heard.dsp.trans (startPulse_dsp s), ?_⟩
  · simpa using heard.tick_after_startPulse
  · simpa using heard.events_after_startPulse
  · simp [hsws]
  · simp [heard.env]

/-- Settles O25: the samples of each statement add up, and the default parameters give the numbers. -/
theorem measurementEndsInTime : Obligations.MeasurementEndsInTime := by
  intro s _ h
  obtain ⟨l, m, hm, hle, hend⟩ := exec_swMeasure_cases h
  have hdefault (hc : s.cfg = { Config.default with swMinInterval := s.cfg.swMinInterval }) :
      pulseTicks s.cfg = 108 ∧ s.cfg.swNAck = 100 ∧ s.cfg.swNBit = 100 := by
    rw [hc]
    exact ⟨rfl, rfl, rfl⟩
  rcases hend with ⟨he, hlo⟩ | ⟨e, hne, he, -⟩
  · refine ⟨_, l, he, hm.events_after_startPulse, hm.tick_after_startPulse, hle, fun _ => hlo, fun hc => ?_⟩
    obtain ⟨hpulse, hack, hbit⟩ := hdefault hc
    exact ⟨by omega, fun _ => by omega⟩
  · have hno := fail_responses_ne_ok .sws hne hm.responses_after_startPulse
    refine ⟨_, l, he, hm.events_after_startPulse, hm.tick_after_startPulse, hle, fun hok => absurd hok hno, fun hc => ?_⟩
    obtain ⟨hpulse, hack, hbit⟩ := hdefault hc
    exact ⟨by omega, fun hok => absurd hok hno⟩

/-- Settles O26: a failure comes after the pulse and samples, and the reading is kept up to it. -/
theorem failedMeasurementKeepsTheReading : Obligations.FailedMeasurementKeepsTheReading := by
  intro s t ht hfail
  by_cases h : gateShut s
  · cases ht.symm.trans (exec_swMeasure_of_shut h)
    exact absurd rfl hfail
  · obtain ⟨l, m, hm, -, ⟨he, -⟩ | ⟨e, -, he, hkept⟩⟩ := exec_swMeasure_cases h
    · cases ht.symm.trans he
      exact absurd (congrArg _ hm.responses_after_startPulse) hfail
    · cases ht.symm.trans he
      exact ⟨hkept.hum, hkept.temp, hkept.valid, hkept.ts, rfl, rfl, rfl, l, hm.events_after_startPulse⟩

/-- Settles O27: the corrupted frame's checksum does not match. -/
theorem singleByteCorruptionIsCaught : Obligations.SingleByteCorruptionIsCaught :=
  fun _ _ _ hk hmatch hb => checkAndCommit_of_mismatch (not_sumMatches_of_corrupted hk hmatch hb)

/-- Settles O28: each statement is the ticks spent at its label, and each tick at a label is one of the clock. -/
theorem tickMachineIsTheMeasurement : Obligations.TickMachineIsTheMeasurement := by
  intro s hok h
  obtain ⟨n, hn, hbusy⟩ := ticksTo_handshake hok.ackPos hok.bitPos
  refine ⟨n, ?_, ?_, ?_, hbusy⟩
  · rw [hn, exec_swMeasure_of_open h]
  · rw [iterate_swTick_tick n hbusy, swEnterPre_tick]
  · rw [hn]
    exact finish_sws_idle _ _

/-- Settles O29: with a reading an accessor answers it, without one it fails. -/
theorem accessorsReturnTheLastReading : Obligations.AccessorsReturnTheLastReading := by
  intro s
  constructor
  · intro h
    have hread : needReading s = .ok s := if_pos h
    exact ⟨congrArg (fun r : Run => Host.Outcome.next (r.finish .sws _)) hread,
      congrArg (fun r : Run => Host.Outcome.next (r.finish .sws _)) hread⟩
  · intro h
    have hread : needReading s = .err .notReadyError s := if_neg (by simp [h])
    exact ⟨congrArg (fun r : Run => Host.Outcome.next (r.finish .sws _)) hread,
      congrArg (fun r : Run => Host.Outcome.next (r.finish .sws _)) hread⟩

/-- Settles O30: the bit's byte is written at the bit's place. -/
theorem frameBitsPackMostSignificantFirst : Obligations.FrameBitsPackMostSignificantFirst :=
  fun buf i _ v _ hj => frameBit_storeFrameBit buf i v hj

end Sys2Proof.Proofs
end

section
/-! Constructions and readings whose bus answers are written out (`41_bus_sensor.md` R170 to R176): what each statement of `CB_NEW`
and `CB_READ` does with the next answer, then the two operations. -/

namespace Sys2Proof.Machine

open Sys2Proof.Claims

/-! ## Transactions on the bus -/

/-- `s` after transactions with these answers: their ticks have passed, `rest` is still to come, and `trail`, newest first, is what they
left in the history. -/
def State.afterBus (answers rest : List I2cAnswer) (trail : List Event) (s : State) : State :=
  { s with
    tick := s.tick + BitVec.ofNat 64 (answers.map (·.ticks)).sum
    env := { s.env with i2c := rest, draws := s.env.draws + answers.length }
    obs := { s.obs with events := trail ++ s.obs.events } }

/-- More transactions after some are all of them. -/
theorem afterBus_afterBus (answers rest : List I2cAnswer) (trail : List Event) (s : State) (more rest' : List I2cAnswer)
    (trail' : List Event) :
    (s.afterBus answers rest trail).afterBus more rest' trail' = s.afterBus (answers ++ more) rest' (trail' ++ trail) := by
  simp [State.afterBus, BitVec.ofNat_add, BitVec.add_assoc, Nat.add_assoc]

section
variable {s : State} {a b : I2cAnswer} {rest : List I2cAnswer}

theorem recorded_of_ack (h : a.ack = true) : recorded a = some a.bytes := if_pos h

theorem recorded_of_nack (h : a.ack = false) : recorded a = none := if_neg (by simp [h])

/-- A read takes the next answer, and records its bytes where it is acknowledged with as many as were asked for. -/
theorem i2cRead_recorded (h : s.env.i2c = a :: rest) (reg : Byte) {n : Nat} (hn : a.ack = true → a.bytes.length = n)
    (addr : BitVec 7) :
    i2cRead addr reg n s = (recorded a, s.afterBus [a] rest [.i2cRead addr reg n (recorded a)]) := by
  have hrec : (if a.ack then some (readBytes s.env.draws n a.bytes) else none) = recorded a := by
    unfold recorded
    split
    next hack => rw [readBytes_given _ _ _ (hn hack)]
    next => rfl
  rw [i2cRead_given h, hrec]
  rfl

/-- A write takes the next answer. -/
theorem i2cWrite_afterBus (h : s.env.i2c = a :: rest) (addr : BitVec 7) (reg : Byte) (bytes : List Byte) :
    i2cWrite addr reg bytes s = (a.ack, s.afterBus [a] rest [.i2cWrite addr reg bytes a.ack]) :=
  i2cWrite_given h addr reg bytes

/-! ## The probes of CB_NEW -/

theorem noMatch_length {c : Config} (h : noMatch c a) : a.ack = true → a.bytes.length = 1 := by
  intro hack
  rcases h with hnack | ⟨b, hb, _⟩
  · rw [hack] at hnack
    exact nomatch hnack
  · rw [hb]
    rfl

theorem recorded_ne_of_noMatch {c : Config} (h : noMatch c a) : recorded a ≠ some [c.cbIdExpect] := by
  rcases h with hnack | ⟨b, hb, hne⟩
  · rw [recorded_of_nack hnack]
    exact nofun
  · unfold recorded
    split <;> simp [hb, hne]

/-- A probe takes the next answer, and matches where that answer is the identity byte. -/
theorem probe_recorded (h : s.env.i2c = a :: rest) (hn : a.ack = true → a.bytes.length = 1) (addr : BitVec 7) (second : Bool) :
    probe addr second s = (decide (recorded a = some [s.cfg.cbIdExpect]), (s.cbAt (.probe addr second)).afterBus [a] rest
      [.i2cRead (candidate s.cfg addr second) s.cfg.cbRegId 1 (recorded a)]) := by
  have hread := i2cRead_recorded (s := s.cbAt (.probe addr second)) h s.cfg.cbRegId hn (candidate s.cfg addr second)
  unfold probe
  rw [hread]

theorem probe_of_match {n : Nat} (h : s.env.i2c = ⟨n, true, [s.cfg.cbIdExpect]⟩ :: rest) (addr : BitVec 7) (second : Bool) :
    probe addr second s = (true, (s.cbAt (.probe addr second)).afterBus [⟨n, true, [s.cfg.cbIdExpect]⟩] rest
      [.i2cRead (candidate s.cfg addr second) s.cfg.cbRegId 1 (some [s.cfg.cbIdExpect])]) := by
  rw [probe_recorded h fun _ => rfl, recorded_of_ack rfl, decide_eq_true rfl]

theorem probe_of_noMatch (h : s.env.i2c = a :: rest) (hno : noMatch s.cfg a) (addr : BitVec 7) (second : Bool) :
    probe addr second s = (false, (s.cbAt (.probe addr second)).afterBus [a] rest
      [.i2cRead (candidate s.cfg addr second) s.cfg.cbRegId 1 (recorded a)]) := by
  rw [probe_recorded h (noMatch_length hno), decide_eq_false (recorded_ne_of_noMatch hno)]

/-- Inside a `CB_NEW` the unit is not ready and holds no reading. -/
def State.constructing (q : CbSeq) (s : State) : State :=
  { s with cbs := { s.cbs with seq := q, ready := false, rvalid := false } }

section
variable {addr : BitVec 7} {m t : State}

/-- The probe of the given address matches. -/
theorem cbNew_of_first (h1 : probe addr false (cbEntry addr s) = (true, m)) : cbNew addr s = cbBuild addr m := by
  unfold cbNew
  rw [h1]
  rfl

/-- Only the probe of the alternate matches. -/
theorem cbNew_of_second (h1 : probe addr false (cbEntry addr s) = (false, m)) (h2 : probe addr true m = (true, t)) :
    cbNew addr s = cbBuild (alternate s.cfg addr) t := by
  unfold cbNew
  rw [h1]
  dsimp only
  rw [h2]
  rfl

/-- Neither probe matches. -/
theorem cbNew_of_neither (h1 : probe addr false (cbEntry addr s) = (false, m)) (h2 : probe addr true m = (false, t)) :
    cbNew addr s = .err .deviceNotFoundError t := by
  unfold cbNew
  rw [h1]
  dsimp only
  rw [h2]
  rfl

end

/-- Where the probes find the device, `CB_NEW` goes on to `CALIB` with the address found. -/
theorem cbNew_of_probesFind {addr found : BitVec 7} {probes : List I2cAnswer} {trail : List Event}
    (hp : probesFind s.cfg addr probes found trail) (h : s.env.i2c = probes ++ rest) :
    ∃ q, cbNew addr s = cbBuild found ((s.constructing q).afterBus probes rest trail) := by
  rcases hp with ⟨n, rfl, rfl, rfl⟩ | ⟨first, n, hno, rfl, rfl, rfl⟩
  · exact ⟨.probe found false, cbNew_of_first (probe_of_match (s := cbEntry found s) h found false)⟩
  · have hfirst := probe_of_noMatch (s := cbEntry addr s) h hno addr false
    have hsecond := cbNew_of_second hfirst (probe_of_match rfl addr true)
    refine ⟨.probe addr true, hsecond.trans (congrArg (cbBuild _) ?_)⟩
    exact afterBus_afterBus [first] _ _ (s.constructing (.probe addr true)) ..

/-- Where neither probe matches, `CB_NEW` fails after the two. -/
theorem cbNew_of_noMatch (h : s.env.i2c = a :: b :: rest) (ha : noMatch s.cfg a) (hb : noMatch s.cfg b) (addr : BitVec 7) :
    cbNew addr s = .err .deviceNotFoundError ((s.constructing (.probe addr true)).afterBus [a, b] rest
      [.i2cRead (alternate s.cfg addr) s.cfg.cbRegId 1 (recorded b), .i2cRead addr s.cfg.cbRegId 1 (recorded a)]) := by
  have hfirst := probe_of_noMatch (s := cbEntry addr s) h ha addr false
  have hsecond := probe_of_noMatch (s := (s.constructing (.probe addr false)).afterBus [a] (b :: rest)
    [.i2cRead addr s.cfg.cbRegId 1 (recorded a)]) rfl hb addr true
  refine (cbNew_of_neither hfirst hsecond).trans (congrArg (Run.err _) ?_)
  exact afterBus_afterBus [a] _ _ (s.constructing (.probe addr true)) ..

/-! ## The burst and the configuration write of CB_NEW -/

theorem cbCalib_acked (h : s.env.i2c = a :: rest) (hack : a.ack = true) (hlen : a.bytes.length = 24) (found : BitVec 7) :
    cbCalib found s = .ok (loadCoeffs a.bytes ((s.cbAt (.calib found)).afterBus [a] rest
      [.i2cRead found s.cfg.cbRegCalib 24 (some a.bytes)])) := by
  have hread := i2cRead_recorded (s := s.cbAt (.calib found)) h s.cfg.cbRegCalib (fun _ => hlen) found
  rw [recorded_of_ack hack] at hread
  unfold cbCalib Config.calibLen
  rw [hread]

theorem cbCalib_nacked (h : s.env.i2c = a :: rest) (hnack : a.ack = false) (found : BitVec 7) :
    cbCalib found s = .err .busError (loseInstance ((s.cbAt (.calib found)).afterBus [a] rest
      [.i2cRead found s.cfg.cbRegCalib 24 none])) := by
  have hread := i2cRead_recorded (s := s.cbAt (.calib found)) (n := 24) h s.cfg.cbRegCalib (by simp [hnack]) found
  rw [recorded_of_nack hnack] at hread
  unfold cbCalib Config.calibLen
  rw [hread]

theorem cbConfig_acked (h : s.env.i2c = a :: rest) (hack : a.ack = true) (found : BitVec 7) :
    cbConfig found s = .ok ((s.cbAt (.config found)).afterBus [a] rest
      [.i2cWrite found s.cfg.cbRegCtrl [s.cfg.cbCtrlValue] true]) := by
  have hwrite := i2cWrite_afterBus (s := s.cbAt (.config found)) h found s.cfg.cbRegCtrl [s.cfg.cbCtrlValue]
  rw [hack] at hwrite
  unfold cbConfig
  rw [hwrite]
  rfl

theorem cbConfig_nacked (h : s.env.i2c = a :: rest) (hnack : a.ack = false) (found : BitVec 7) :
    cbConfig found s = .err .busError (loseInstance ((s.cbAt (.config found)).afterBus [a] rest
      [.i2cWrite found s.cfg.cbRegCtrl [s.cfg.cbCtrlValue] false])) := by
  have hwrite := i2cWrite_afterBus (s := s.cbAt (.config found)) h found s.cfg.cbRegCtrl [s.cfg.cbCtrlValue]
  rw [hnack] at hwrite
  unfold cbConfig
  rw [hwrite]
  rfl

/-- The burst is not acknowledged: the configuration write is not sent. -/
theorem cbBuild_calib_nacked (h : s.env.i2c = a :: rest) (hnack : a.ack = false) (found : BitVec 7) :
    cbBuild found s = .err .busError (loseInstance ((s.cbAt (.calib found)).afterBus [a] rest
      [.i2cRead found s.cfg.cbRegCalib 24 none])) := by
  unfold cbBuild
  rw [cbCalib_nacked h hnack]
  rfl

section
variable (h : s.env.i2c = a :: b :: rest) (hack : a.ack = true) (hlen : a.bytes.length = 24)
include h hack hlen

theorem cbBuild_config_nacked (hnack : b.ack = false) (found : BitVec 7) :
    cbBuild found s = .err .busError (loseInstance (((loadCoeffs a.bytes s).cbAt (.config found)).afterBus [a, b] rest
      [.i2cWrite found s.cfg.cbRegCtrl [s.cfg.cbCtrlValue] false, .i2cRead found s.cfg.cbRegCalib 24 (some a.bytes)])) := by
  unfold cbBuild
  rw [cbCalib_acked h hack hlen, Run.ok_andThen, cbConfig_nacked rfl hnack]
  exact congrArg (fun t => Run.err _ (loseInstance t))
    (afterBus_afterBus [a] (b :: rest) _ ((loadCoeffs a.bytes s).cbAt (.config found)) [b] rest _)

theorem cbBuild_acked (hack' : b.ack = true) (found : BitVec 7) :
    cbBuild found s = .ok (cbDone found (((loadCoeffs a.bytes s).cbAt (.config found)).afterBus [a, b] rest
      [.i2cWrite found s.cfg.cbRegCtrl [s.cfg.cbCtrlValue] true, .i2cRead found s.cfg.cbRegCalib 24 (some a.bytes)])) := by
  unfold cbBuild
  rw [cbCalib_acked h hack hlen, Run.ok_andThen, cbConfig_acked rfl hack']
  exact congrArg (fun t => Run.ok (cbDone found t))
    (afterBus_afterBus [a] (b :: rest) _ ((loadCoeffs a.bytes s).cbAt (.config found)) [b] rest _)

end

end

/-! ## A well-behaved device -/

section
variable (d : BusDevice) (a : BitVec 7) (base reg : Byte) (n ticks : Nat)

@[simp] theorem BusDevice.read_ticks : (d.read a reg n ticks).ticks = ticks := rfl

@[simp] theorem BusDevice.write_ticks : (d.write a ticks).ticks = ticks := rfl

theorem BusDevice.read_ack : (d.read d.addr reg n ticks).ack = true := decide_eq_true rfl

theorem BusDevice.write_ack : (d.write d.addr ticks).ack = true := decide_eq_true rfl

theorem deviceCalib_length : (deviceCalib d base).length = 24 := by simp [deviceCalib]

theorem deviceCalib_getD {k : Nat} (hk : k < 24) : (deviceCalib d base).getD k 0 = d.regs.getD (base.toNat + k) 0 := by
  simp [deviceCalib, hk]

theorem coeffOf_deviceCalib {j : Nat} (hj : j < 12) : coeffOf (deviceCalib d base) j = deviceCoeff d base j := by
  rw [coeffOf, deviceCoeff, deviceCalib_getD d base (by omega), deviceCalib_getD d base (by omega)]

/-- The coefficients loaded from a device's burst are the device's. -/
theorem coeffsOf_deviceCalib : coeffsOf (deviceCalib d base) = deviceCoeffs d base := by
  simp [coeffsOf, deviceCoeffs, coeffOf_deviceCalib]

end

/-- A device with the right identity answers a probe with it. -/
theorem BusDevice.read_identity {c : Config} {d : BusDevice} (hid : d.regs.getD c.cbRegId.toNat 0 = c.cbIdExpect) (n : Nat) :
    d.read d.addr c.cbRegId 1 n = ⟨n, true, [c.cbIdExpect]⟩ := by
  have hack := d.read_ack c.cbRegId 1 n
  have hbytes : (d.read d.addr c.cbRegId 1 n).bytes = [c.cbIdExpect] :=
    congrArg ([·]) hid
  rw [← hack, ← hbytes]
  rfl

/-- Where the probes find a device, `CB_NEW` has its answers and its coefficients at `DONE`. -/
theorem cbNew_of_device {s : State} {d : BusDevice} {addr : BitVec 7} {probes rest : List I2cAnswer} {trail : List Event}
    {n2 n3 : Nat} (hp : probesFind s.cfg addr probes d.addr trail)
    (h : s.env.i2c = probes ++ d.read d.addr s.cfg.cbRegCalib 24 n2 :: d.write d.addr n3 :: rest) :
    cbNew addr s = .ok (cbDone d.addr ((loadCoeffs (deviceCalib d s.cfg.cbRegCalib) (s.constructing (.config d.addr))).afterBus
      (probes ++ [d.read d.addr s.cfg.cbRegCalib 24 n2, d.write d.addr n3]) rest
      ([.i2cWrite d.addr s.cfg.cbRegCtrl [s.cfg.cbCtrlValue] true,
        .i2cRead d.addr s.cfg.cbRegCalib 24 (some (deviceCalib d s.cfg.cbRegCalib))] ++ trail))) := by
  obtain ⟨q, hq⟩ := cbNew_of_probesFind hp h
  have hbuild := cbBuild_acked (s := (s.constructing q).afterBus probes _ trail) (rest := rest) rfl
    (d.read_ack s.cfg.cbRegCalib 24 n2) (deviceCalib_length d s.cfg.cbRegCalib) (d.write_ack n3) d.addr
  refine hq.trans (hbuild.trans (congrArg (fun t => Run.ok (cbDone d.addr t)) ?_))
  exact afterBus_afterBus probes _ trail
    (loadCoeffs (deviceCalib d s.cfg.cbRegCalib) (s.constructing (.config d.addr))) ..

/-- `CB_NEW` is answered as its statements end. -/
theorem exec_cbNew_of_run {addr : BitVec 7} {s : State} {r : Run} (h : cbNew addr s = r) :
    exec (.cbNew addr) s = .next (r.finish .cbs noPayload) := congrArg (fun r : Run => Host.Outcome.next (r.finish .cbs _)) h

/-- `CB_NEW` where its probes find a device, from acceptance to response. -/
theorem exec_cbNew_of_device {s : State} {d : BusDevice} {addr : BitVec 7} {probes rest : List I2cAnswer} {trail : List Event}
    {n1 n2 n3 : Nat} (hp : probesFind s.cfg addr probes d.addr trail) (hn : (probes.map (·.ticks)).sum = n1)
    (h : s.env.i2c = probes ++ d.read d.addr s.cfg.cbRegCalib 24 n2 :: d.write d.addr n3 :: rest) :
    exec (.cbNew addr) s = .next { s with
      tick := s.tick + BitVec.ofNat 64 (n1 + n2 + n3), busy := false
      cbs := { s.cbs with
        seq := .idle, ready := true, rvalid := false, addr := d.addr, coef := deviceCoeffs d s.cfg.cbRegCalib }
      env := { s.env with i2c := rest, draws := s.env.draws + (probes.length + 2) }
      obs := {
        events := .i2cWrite d.addr s.cfg.cbRegCtrl [s.cfg.cbCtrlValue] true
          :: .i2cRead d.addr s.cfg.cbRegCalib 24 (some (deviceCalib d s.cfg.cbRegCalib)) :: (trail ++ s.obs.events)
        responses := [0] :: s.obs.responses } } := by
  have hticks : ((probes ++ [d.read d.addr s.cfg.cbRegCalib 24 n2, d.write d.addr n3]).map (·.ticks)).sum
      = n1 + n2 + n3 := by simp [hn, Nat.add_assoc]
  have hdraws : (probes ++ [d.read d.addr s.cfg.cbRegCalib 24 n2, d.write d.addr n3]).length = probes.length + 2 := by simp
  rw [exec_cbNew_of_run (cbNew_of_device hp h), State.afterBus, hticks, hdraws, loadCoeffs, coeffsOf_deviceCalib]
  rfl

/-! ## CB_READ -/

/-- The raw value of a burst is its bytes weighed (`30_encoding.md` R109). -/
theorem adcOfBurst_eq_rawValue (b0 b1 b2 : Byte) : adcOfBurst [b0, b1, b2] = rawValue b0 b1 b2 := by
  refine BitVec.eq_of_toNat_eq ?_
  have h0 := b0.isLt
  have h1 := b1.isLt
  have h2 := b2.isLt
  have hsum : (rawValue b0 b1 b2).toNat = b0.toNat * 4096 + b1.toNat * 16 + b2.toNat / 16 :=
    Nat.mod_eq_of_lt (by omega)
  exact (adcOf_toNat b0 b1 b2).trans hsum.symm

section
variable {s : State} {a b : I2cAnswer} {rest : List I2cAnswer}

theorem cbCheck_ready (h : s.cbs.ready = true) : cbCheck s = .ok (s.cbAt .check) := if_pos h

theorem cbReadT_nacked (h : s.env.i2c = a :: rest) (hnack : a.ack = false) :
    cbReadT s = .err .busError ((s.cbAt .rdT).afterBus [a] rest [.i2cRead s.cbs.addr s.cfg.cbRegTemp 3 none]) := by
  have hread := i2cRead_recorded (s := s.cbAt .rdT) (n := 3) h s.cfg.cbRegTemp (by simp [hnack]) s.cbs.addr
  rw [recorded_of_nack hnack] at hread
  unfold cbReadT
  rw [hread]

theorem cbReadP_nacked (h : s.env.i2c = a :: rest) (hnack : a.ack = false) :
    cbReadP s = .err .busError ((s.cbAt .rdP).afterBus [a] rest [.i2cRead s.cbs.addr s.cfg.cbRegPress 3 none]) := by
  have hread := i2cRead_recorded (s := s.cbAt .rdP) (n := 3) h s.cfg.cbRegPress (by simp [hnack]) s.cbs.addr
  rw [recorded_of_nack hnack] at hread
  unfold cbReadP
  rw [hread]

/-- `CB_ADC_T <- adc`, at `RD_T`. -/
def State.withAdcT (adc : BitVec 20) (s : State) : State := { s with cbs := { s.cbs with seq := .rdT, adcT := adc } }

/-- `CB_ADC_P <- adc`, at `RD_P`. -/
def State.withAdcP (adc : BitVec 20) (s : State) : State := { s with cbs := { s.cbs with seq := .rdP, adcP := adc } }

theorem cbReadT_acked {b0 b1 b2 : Byte} (h : s.env.i2c = a :: rest) (hack : a.ack = true) (hbytes : a.bytes = [b0, b1, b2]) :
    cbReadT s = .ok ((s.withAdcT (rawValue b0 b1 b2)).afterBus [a] rest
      [.i2cRead s.cbs.addr s.cfg.cbRegTemp 3 (some [b0, b1, b2])]) := by
  have hread := i2cRead_recorded (s := s.cbAt .rdT) (n := 3) h s.cfg.cbRegTemp (fun _ => by simp [hbytes]) s.cbs.addr
  rw [recorded_of_ack hack, hbytes] at hread
  unfold cbReadT
  rw [hread, ← adcOfBurst_eq_rawValue]
  rfl

theorem cbReadP_acked {c0 c1 c2 : Byte} (h : s.env.i2c = a :: rest) (hack : a.ack = true) (hbytes : a.bytes = [c0, c1, c2]) :
    cbReadP s = .ok ((s.withAdcP (rawValue c0 c1 c2)).afterBus [a] rest
      [.i2cRead s.cbs.addr s.cfg.cbRegPress 3 (some [c0, c1, c2])]) := by
  have hread := i2cRead_recorded (s := s.cbAt .rdP) (n := 3) h s.cfg.cbRegPress (fun _ => by simp [hbytes]) s.cbs.addr
  rw [recorded_of_ack hack, hbytes] at hread
  unfold cbReadP
  rw [hread, ← adcOfBurst_eq_rawValue]
  rfl

theorem cbCompP_none (h : compP s.cbs.adcP s.cbs.tfine s.cbs.coef = none) :
    cbCompP s = .err .compensationError (s.cbAt .compP) := by
  rw [cbCompP, h]

theorem cbCompP_some {p : Word} (h : compP s.cbs.adcP s.cbs.tfine s.cbs.coef = some p) :
    cbCompP s = .ok (cbCommit (compT s.cbs.adcT s.cbs.coef).2 p s) := by
  rw [cbCompP, h]

/-- `CB_READ` is answered as its statements end. -/
theorem exec_cbRead_of_run {r : Run} (h : cbRead s = r) : exec .cbRead s = .next (r.finish .cbs readPayload) :=
  congrArg (fun r : Run => Host.Outcome.next (r.finish .cbs _)) h

theorem cbRead_not_ready (h : s.cbs.ready = false) : cbRead s = .err .notReadyError s := by
  have hcheck : cbCheck s = .err .notReadyError s := if_neg (by simp [h])
  rw [cbRead, hcheck]
  rfl

section
variable (hready : s.cbs.ready = true)
include hready

/-- The temperature burst is not acknowledged: the pressure burst is not sent. -/
theorem cbRead_temp_nacked (h : s.env.i2c = a :: rest) (hnack : a.ack = false) :
    cbRead s = .err .busError ((s.cbAt .rdT).afterBus [a] rest [.i2cRead s.cbs.addr s.cfg.cbRegTemp 3 none]) := by
  unfold cbRead
  rw [cbCheck_ready hready, Run.ok_andThen, cbReadT_nacked (s := s.cbAt .check) h hnack]
  rfl

variable {b0 b1 b2 : Byte} (h : s.env.i2c = a :: b :: rest) (hack : a.ack = true) (hbytes : a.bytes = [b0, b1, b2])
include h hack hbytes

theorem cbRead_press_nacked (hnack : b.ack = false) :
    cbRead s = .err .busError (((s.withAdcT (rawValue b0 b1 b2)).cbAt .rdP).afterBus [a, b] rest
      [.i2cRead s.cbs.addr s.cfg.cbRegPress 3 none, .i2cRead s.cbs.addr s.cfg.cbRegTemp 3 (some [b0, b1, b2])]) := by
  unfold cbRead
  rw [cbCheck_ready hready, Run.ok_andThen, cbReadT_acked (s := s.cbAt .check) h hack hbytes, Run.ok_andThen,
    cbReadP_nacked rfl hnack]
  exact congrArg (Run.err _)
    (afterBus_afterBus [a] (b :: rest) _ ((s.withAdcT (rawValue b0 b1 b2)).cbAt .rdP) [b] rest _)

/-- Both bursts are acknowledged: the pair is compensated. -/
theorem cbRead_acked {c0 c1 c2 : Byte} (hack' : b.ack = true) (hbytes' : b.bytes = [c0, c1, c2]) :
    cbRead s = cbCompP (cbCompT (((s.withAdcT (rawValue b0 b1 b2)).withAdcP (rawValue c0 c1 c2)).afterBus [a, b] rest
      [.i2cRead s.cbs.addr s.cfg.cbRegPress 3 (some [c0, c1, c2]),
        .i2cRead s.cbs.addr s.cfg.cbRegTemp 3 (some [b0, b1, b2])])) := by
  unfold cbRead
  rw [cbCheck_ready hready, Run.ok_andThen, cbReadT_acked (s := s.cbAt .check) h hack hbytes, Run.ok_andThen,
    cbReadP_acked rfl hack' hbytes']
  exact congrArg (fun t => cbCompP (cbCompT t))
    (afterBus_afterBus [a] _ _ ((s.withAdcT (rawValue b0 b1 b2)).withAdcP (rawValue c0 c1 c2)) ..)

end

end

end Sys2Proof.Machine
end

section
/-! The fixed-point datapath of CBS read on integers (`00_scope.md` R11): each operator is the integer one with `wrap64` after it, and
where the exact value fits, that is no wrap at all; then `CompP` (`41_bus_sensor.md` R179 to R181) and `CompT` (R178). -/

namespace Sys2Proof.Machine

open Sys2Proof.Claims

/-! ## Operators -/

section
variable (x y : Quad) (n : Nat)

theorem toInt_add64 : (x + y).toInt = wrap64 (x.toInt + y.toInt) := BitVec.toInt_add ..

theorem toInt_sub64 : (x - y).toInt = wrap64 (x.toInt - y.toInt) := BitVec.toInt_sub

theorem toInt_mul64 : (x * y).toInt = wrap64 (x.toInt * y.toInt) := BitVec.toInt_mul ..

theorem toInt_div64 : (div64 x y).toInt = wrap64 (x.toInt.tdiv y.toInt) := BitVec.toInt_sdiv ..

theorem toInt_sar64 : (sar64 x n).toInt = x.toInt / 2 ^ n := by
  rw [sar64, BitVec.toInt_sshiftRight, Int.shiftRight_eq_div_pow, Nat.cast_pow]
  rfl

theorem toInt_shl64 : (x <<< n).toInt = wrap64 (x.toInt * 2 ^ n) := by
  rw [BitVec.toInt_shiftLeft, Nat.shiftLeft_eq, BitVec.toInt_eq_toNat_bmod x, wrap64, Int.bmod_mul_bmod, Nat.cast_mul,
    Nat.cast_pow]
  rfl

/-- The low word of a result is its value, wrapped to 32 bits. -/
theorem setWidth_eq_ofInt : x.setWidth 32 = BitVec.ofInt 32 x.toInt :=
  (BitVec.signExtend_eq_setWidth_of_le x (by omega)).symm

end

theorem toInt_signExtend64 {w : Nat} (x : BitVec w) (hw : w ≤ 64) : (x.signExtend 64).toInt = x.toInt :=
  BitVec.toInt_signExtend_of_le hw

/-- An unsigned operand of fewer than 64 bits keeps its value. -/
theorem toInt_setWidth64 {w : Nat} (x : BitVec w) (hw : w ≤ 63) : (x.setWidth 64).toInt = x.toNat := by
  have hx : x.toNat < 2 ^ 63 := x.isLt.trans_le (Nat.pow_le_pow_right (by omega) hw)
  rw [BitVec.toInt_setWidth]
  exact Int.bmod_eq_of_le (by omega) (by omega)

/-- A value of 64 bits does not wrap. -/
theorem wrap64_of_abs_lt {z : Int} (h : |z| < 2 ^ 63) : wrap64 z = z := by
  rw [abs_lt] at h
  exact Int.bmod_eq_of_le (by omega) (by omega)

/-! ## CompP -/

/-- The denominator on integers. -/
theorem pressDenom_toInt (tf : Word) (k : Coeffs) :
    (pressDenom tf k).toInt = wrap64 (wrap64 (wrap64 (1 * 2 ^ 47)
      + wrap64 (wrap64 (wrap64 (wrap64 (tf.toInt - 128000) * wrap64 (tf.toInt - 128000)) * k.p3.toInt) / 2 ^ 8
        + wrap64 (wrap64 (wrap64 (tf.toInt - 128000) * k.p2.toInt) * 2 ^ 12))) * k.p1.toNat) / 2 ^ 33 := by
  simp only [pressDenom, toInt_add64, toInt_sub64, toInt_mul64, toInt_sar64, toInt_shl64, toInt_signExtend64,
    toInt_setWidth64, BitVec.ofNat_eq_ofNat, BitVec.reduceToInt, Nat.reduceLeDiff]

/-- `CompP` operator by operator; 1048576 less a 20-bit raw value needs no wrap. -/
theorem compP_eq (adc : BitVec 20) (tf : Word) (k : Coeffs) :
    compP adc tf k = (wrappedPressure adc.toNat tf.toInt k.p1.toNat k.p2.toInt k.p3.toInt k.p4.toInt k.p5.toInt k.p6.toInt
      k.p7.toInt k.p8.toInt k.p9.toInt).map (BitVec.ofInt 32) := by
  have h0 : pressDenom tf k = 0 ↔ (pressDenom tf k).toInt = 0 := by
    rw [← BitVec.toInt_inj]
    rfl
  unfold compP wrappedPressure
  simp only [h0, ← pressDenom_toInt]
  split
  · rfl
  · have hraw : wrap64 (1048576 - (adc.toNat : Int)) = 1048576 - adc.toNat := by
      have h := adc.isLt
      exact wrap64_of_abs_lt (abs_lt.mpr ⟨by omega, by omega⟩)
    rw [Option.map_some, setWidth_eq_ofInt]
    simp only [toInt_add64, toInt_sub64, toInt_mul64, toInt_div64, toInt_sar64, toInt_shl64, toInt_signExtend64,
      toInt_setWidth64, hraw, BitVec.ofNat_eq_ofNat, BitVec.reduceToInt, Nat.reduceLeDiff]

theorem compP_of_p1_zero {k : Coeffs} (h : k.p1 = 0) (adc : BitVec 20) (tf : Word) : compP adc tf k = none := by
  have hd : pressDenom tf k = 0 := by
    rw [← BitVec.toInt_inj, pressDenom_toInt, h]
    simp [wrap64]
  rw [compP, if_pos hd]

/-! ## CompT

With a = ⌊raw/8⌋ − 2·T1 and b = ⌊raw/16⌋ − T1, the fine temperature is a term in a·T2 and one in b²·T3. -/

/-- A bound of a value shifted right. -/
theorem abs_ediv_two_pow_le {x c : Int} {n : Nat} (h : |x| ≤ c * 2 ^ n) : |x / 2 ^ n| ≤ c := by
  have hpos : (0 : Int) < 2 ^ n := by positivity
  rw [abs_le] at h ⊢
  exact ⟨(Int.le_ediv_iff_mul_le hpos).mpr (by linarith), Int.ediv_le_of_le_mul hpos h.2⟩

theorem abs_mul_le {x y c d : Int} (hx : |x| ≤ c) (hy : |y| ≤ d) : |x * y| ≤ c * d := by
  rw [abs_mul]
  exact mul_le_mul hx hy (abs_nonneg y) ((abs_nonneg x).trans hx)

theorem abs_toInt_le (x : Half) : |x.toInt| ≤ 32768 :=
  abs_le.mpr ⟨BitVec.le_toInt x, (BitVec.toInt_lt (x := x)).le⟩

section
variable (adc : BitVec 20) (t1 : Half)

theorem abs_coarse_le : |(adc.toNat : Int) / 2 ^ 3 - t1.toNat * 2| ≤ 131071 := by
  have hadc := adc.isLt
  have ht1 := t1.isLt
  exact abs_le.mpr ⟨by omega, by omega⟩

theorem abs_fine_le : |(adc.toNat : Int) / 2 ^ 4 - t1.toNat| ≤ 65535 := by
  have hadc := adc.isLt
  have ht1 := t1.isLt
  exact abs_le.mpr ⟨by omega, by omega⟩

end

section
variable {a b : Int} (t : Half)

theorem abs_linearTerm_le (ha : |a| ≤ 131071) : |a * t.toInt / 2 ^ 11| ≤ 2097136 :=
  abs_ediv_two_pow_le ((abs_mul_le ha (abs_toInt_le t)).trans_eq (by norm_num))

theorem abs_square_le (hb : |b| ≤ 65535) : |b * b| ≤ 4294836225 := abs_mul_le hb hb

theorem abs_square_shifted_le (hb : |b| ≤ 65535) : |b * b / 2 ^ 12| ≤ 1048544 := by
  have hsquare := abs_square_le hb
  have hnonneg := mul_self_nonneg b
  rw [abs_le] at hsquare ⊢
  constructor <;> omega

theorem abs_quadraticProduct_le (hb : |b| ≤ 65535) : |b * b / 2 ^ 12 * t.toInt| ≤ 1048544 * 32768 :=
  abs_mul_le (abs_square_shifted_le hb) (abs_toInt_le t)

theorem abs_quadraticTerm_le (hb : |b| ≤ 65535) : |b * b / 2 ^ 12 * t.toInt / 2 ^ 14| ≤ 2097088 :=
  abs_ediv_two_pow_le (abs_quadraticProduct_le t hb)

end

section
variable (adc : BitVec 20) (k : Coeffs)

/-- `CompT`'s two results on integers, for these operands. -/
abbrev exactTemperatureOf : Int × Int := exactTemperature adc.toNat k.t1.toNat k.t2.toInt k.t3.toInt

theorem abs_exactTemperature_fst_le : |(exactTemperatureOf adc k).1| ≤ 4194224 :=
  (abs_add_le _ _).trans (add_le_add (abs_linearTerm_le k.t2 (abs_coarse_le adc k.t1))
    (abs_quadraticTerm_le k.t3 (abs_fine_le adc k.t1)))

theorem abs_exactTemperature_snd_le : |(exactTemperatureOf adc k).2| ≤ 81920 := by
  have hfine := abs_exactTemperature_fst_le adc k
  have hsnd : (exactTemperatureOf adc k).2 = ((exactTemperatureOf adc k).1 * 5 + 128) / 2 ^ 8 := rfl
  rw [hsnd, abs_le] at *
  constructor <;> omega

/-- No operator of the fine temperature wraps. -/
theorem fineTemp_toInt : (fineTemp adc k).toInt = (exactTemperatureOf adc k).1 := by
  have ht1 : wrap64 ((k.t1.toNat : Int) * 2 ^ 1) = k.t1.toNat * 2 := by
    have h := k.t1.isLt
    exact wrap64_of_abs_lt (abs_lt.mpr ⟨by omega, by omega⟩)
  have ha := abs_coarse_le adc k.t1
  have hb := abs_fine_le adc k.t1
  have ha2 := abs_mul_le ha (abs_toInt_le k.t2)
  have hb2 := abs_square_le hb
  have hb3 := abs_quadraticProduct_le k.t3 hb
  have hsum := abs_exactTemperature_fst_le adc k
  simp only [fineTemp, toInt_add64, toInt_sub64, toInt_mul64, toInt_sar64, toInt_shl64, toInt_signExtend64,
    toInt_setWidth64, Nat.reduceLeDiff, ht1]
  rw [wrap64_of_abs_lt (ha.trans_lt (by norm_num)), wrap64_of_abs_lt (ha2.trans_lt (by norm_num)),
    wrap64_of_abs_lt (hb.trans_lt (by norm_num)), wrap64_of_abs_lt (hb2.trans_lt (by norm_num)),
    wrap64_of_abs_lt (hb3.trans_lt (by norm_num))]
  exact wrap64_of_abs_lt (hsum.trans_lt (by norm_num))

/-- A value of 32 bits is its low word's. -/
theorem toInt_setWidth32 {x : Quad} (h : |x.toInt| < 2 ^ 31) : (x.setWidth 32).toInt = x.toInt := by
  rw [abs_lt] at h
  rw [setWidth_eq_ofInt, BitVec.toInt_ofInt]
  exact Int.bmod_eq_of_le (by omega) (by omega)

theorem compT_fst_toInt : (compT adc k).1.toInt = (exactTemperatureOf adc k).1 := by
  have hfine := abs_exactTemperature_fst_le adc k
  rw [← fineTemp_toInt] at hfine ⊢
  exact toInt_setWidth32 (hfine.trans_lt (by norm_num))

theorem compT_snd_toInt : (compT adc k).2.toInt = (exactTemperatureOf adc k).2 := by
  have hfine := abs_le.mp (abs_exactTemperature_fst_le adc k)
  have hsnd := abs_exactTemperature_snd_le adc k
  have hshifted : (sar64 (fineTemp adc k * 5 + 128) 8).toInt = (exactTemperatureOf adc k).2 := by
    have hproduct : wrap64 ((exactTemperatureOf adc k).1 * 5) = (exactTemperatureOf adc k).1 * 5 :=
      wrap64_of_abs_lt (abs_lt.mpr ⟨by omega, by omega⟩)
    simp only [toInt_sar64, toInt_add64, toInt_mul64, fineTemp_toInt, BitVec.ofNat_eq_ofNat, BitVec.reduceToInt, hproduct]
    rw [wrap64_of_abs_lt (abs_lt.mpr ⟨by omega, by omega⟩)]
    rfl
  rw [← hshifted] at hsnd ⊢
  exact toInt_setWidth32 (hsnd.trans_lt (by norm_num))

end

end Sys2Proof.Machine
end

section
/-! The altitude (`41_bus_sensor.md` R182): the model's tests on naturals are comparisons with the real formula, its search finds the
integer part of that formula's power, and its value is within the tolerance. -/

namespace Sys2Proof.Machine

open Sys2Proof.Claims

/-- The part of the formula that falls with the altitude: 4433000·(p/p0)^(1/5.255). -/
noncomputable def altPower (p p0 : Word) : ℝ := altScale * ((p.toNat : ℝ) / p0.toNat) ^ ((1 : ℝ) / 5.255)

theorem realAltitude_eq (p p0 : Word) : realAltitude p p0 = altScale - altPower p p0 := by
  unfold realAltitude altPower altScale
  ring

theorem altPower_nonneg (p p0 : Word) : 0 ≤ altPower p p0 := by
  unfold altPower
  positivity

/-! ## Comparisons on naturals -/

section
variable {p p0 : Word} (h : p0 ≠ 0)
include h

theorem toNat_pos_of_ne_zero : (0 : ℝ) < p0.toNat := by
  exact_mod_cast Nat.pos_of_ne_zero fun h0 => h (BitVec.eq_of_toNat_eq h0)

/-- 1/5.255 is 200/1051. -/
theorem altPower_pow : altPower p p0 ^ 1051 * (p0.toNat : ℝ) ^ 200 = (altScale : ℝ) ^ 1051 * (p.toNat : ℝ) ^ 200 := by
  have hratio : (((p.toNat : ℝ) / p0.toNat) ^ ((1 : ℝ) / 5.255)) ^ 1051 = ((p.toNat : ℝ) / p0.toNat) ^ 200 := by
    rw [← Real.rpow_mul_natCast (by positivity), ← Real.rpow_natCast]
    norm_num
  have hp0 := (pow_pos (toNat_pos_of_ne_zero h) 200).ne'
  rw [altPower, mul_pow, hratio, div_pow, mul_assoc, div_mul_cancel₀ _ hp0]

theorem altAtMost_iff (y : Nat) : altAtMost p p0 y = true ↔ (y : ℝ) ≤ altPower p p0 := by
  have hp0 := pow_pos (toNat_pos_of_ne_zero h) 200
  rw [altAtMost, decide_eq_true_iff, ← Nat.cast_le (α := ℝ)]
  push_cast
  rw [← altPower_pow h, mul_le_mul_iff_left₀ hp0]
  exact pow_le_pow_iff_left₀ y.cast_nonneg (altPower_nonneg p p0) (by omega)

theorem altAtLeast_iff (y : Nat) : altAtLeast p p0 y = true ↔ altPower p p0 ≤ y := by
  have hp0 := pow_pos (toNat_pos_of_ne_zero h) 200
  rw [altAtLeast, decide_eq_true_iff, ← Nat.cast_le (α := ℝ)]
  push_cast
  rw [← altPower_pow h, mul_le_mul_iff_left₀ hp0]
  exact pow_le_pow_iff_left₀ (altPower_nonneg p p0) y.cast_nonneg (by omega)

/-- An admissible value is within the tolerance. -/
theorem abs_sub_realAltitude_le_of_admissible {tol : Nat} {A : Int} (hA : altAdmissible tol p p0 A = true) :
    |(A : ℝ) - realAltitude p p0| ≤ tol := by
  simp only [altAdmissible, Bool.and_eq_true, altAtMost_iff h, altAtLeast_iff h, decide_eq_true_eq] at hA
  obtain ⟨hlo, hnonneg, hhi⟩ := hA
  have hlower : ((altScale - A - tol : ℤ) : ℝ) ≤ altPower p p0 :=
    le_trans (by exact_mod_cast Int.self_le_toNat _) hlo
  have hupper : altPower p p0 ≤ ((altScale - A + tol : ℤ) : ℝ) :=
    hhi.trans_eq (by exact_mod_cast Int.toNat_of_nonneg hnonneg)
  push_cast at hlower hupper
  rw [realAltitude_eq, abs_le]
  constructor <;> linarith

/-! ## The search -/

/-- The search from `base` keeps the power at least `base`, and ends with its integer part. -/
theorem altFloorFrom_spec (n base : Nat) (hlo : (base : ℝ) ≤ altPower p p0) (hhi : altPower p p0 < base + 2 ^ n) :
    (altFloorFrom p p0 n base : ℝ) ≤ altPower p p0 ∧ altPower p p0 < altFloorFrom p p0 n base + 1 := by
  induction n generalizing base with
  | zero => simpa [altFloorFrom] using And.intro hlo hhi
  | succ n ih =>
    rw [altFloorFrom]
    have hmid := altAtMost_iff (p := p) h (base + 2 ^ n)
    push_cast at hmid
    split
    next hle =>
      refine ih _ ?_ ?_
      · push_cast; exact hmid.mp hle
      · push_cast; rw [pow_succ] at hhi; linarith
    next hgt => exact ih _ hlo (not_le.mp fun hle => hgt (hmid.mpr hle))

/-- The power of any two 32-bit pressures is at most 100 times the scale: their ratio is below 100^5.255. -/
theorem altPower_lt : altPower p p0 < 2 ^ 29 := by
  have hp0 : (1 : ℝ) ≤ p0.toNat := by exact_mod_cast toNat_pos_of_ne_zero h
  have hp : (p.toNat : ℝ) ≤ 100 ^ (5 : ℝ) := by
    have hlt : (p.toNat : ℝ) < 2 ^ 32 := by exact_mod_cast p.isLt
    exact hlt.le.trans (by norm_num)
  have hratio : (p.toNat : ℝ) / p0.toNat ≤ 100 ^ (5.255 : ℝ) :=
    calc (p.toNat : ℝ) / p0.toNat ≤ p.toNat := div_le_self (Nat.cast_nonneg _) hp0
      _ ≤ 100 ^ (5 : ℝ) := hp
      _ ≤ 100 ^ (5.255 : ℝ) := Real.rpow_le_rpow_of_exponent_le (by norm_num) (by norm_num)
  have hroot : ((p.toNat : ℝ) / p0.toNat) ^ ((1 : ℝ) / 5.255) ≤ 100 := by
    rw [one_div]
    exact (Real.rpow_inv_le_iff_of_pos (by positivity) (by norm_num) (by norm_num)).mpr hratio
  calc altPower p p0 ≤ altScale * 100 := mul_le_mul_of_nonneg_left hroot (Nat.cast_nonneg _)
    _ < 2 ^ 29 := by norm_num [altScale]

theorem altFloor_spec : (altFloor p p0 : ℝ) ≤ altPower p p0 ∧ altPower p p0 < altFloor p p0 + 1 :=
  altFloorFrom_spec h 29 0 (by simpa using altPower_nonneg p p0) (by simpa using altPower_lt h)

/-- The search's altitude fits 32 bits signed. -/
theorem toInt_altFloor : (BitVec.ofInt 32 ((altScale : Int) - altFloor p p0)).toInt = altScale - altFloor p p0 := by
  have hlt : altFloor p p0 < 2 ^ 29 := by exact_mod_cast (altFloor_spec h).1.trans_lt (altPower_lt h)
  rw [BitVec.toInt_ofInt]
  exact Int.bmod_eq_of_le (by unfold altScale; omega) (by unfold altScale; omega)

/-- The search's altitude is within 1, and exact where the real one is an integer. -/
theorem abs_altFloor_sub_realAltitude_le {tol : Nat} (htol : 1 ≤ tol ∨ ∃ A : ℤ, (A : ℝ) = realAltitude p p0) :
    |((altScale - altFloor p p0 : ℤ) : ℝ) - realAltitude p p0| ≤ tol := by
  obtain ⟨hlo, hhi⟩ := altFloor_spec h
  have hsub : ((altScale - altFloor p p0 : ℤ) : ℝ) - realAltitude p p0 = altPower p p0 - altFloor p p0 := by
    rw [realAltitude_eq]
    push_cast
    ring
  rw [hsub, abs_of_nonneg (by linarith)]
  rcases htol with htol | ⟨A, hA⟩
  · have htol : (1 : ℝ) ≤ tol := by exact_mod_cast htol
    linarith
  · have hpower : altPower p p0 = ((altScale - A : ℤ) : ℝ) := by
      rw [realAltitude_eq] at hA
      push_cast
      linarith
    have hle : (altScale - A : ℤ) ≤ altFloor p p0 := by
      rw [hpower] at hhi
      exact Int.lt_add_one_iff.mp (by exact_mod_cast hhi)
    have hle : altPower p p0 ≤ altFloor p p0 := by
      rw [hpower]
      exact_mod_cast hle
    linarith [(Nat.cast_nonneg tol : (0 : ℝ) ≤ tol)]

end

theorem realAltitude_self {p : Word} (h : p ≠ 0) : realAltitude p p = 0 := by
  rw [realAltitude, div_self (toNat_pos_of_ne_zero h).ne', Real.one_rpow]
  ring

theorem altFn_self (c : Config) (p : Word) : altFn c p p = 0 := if_pos rfl

/-- Whichever value `ALT_FN` takes is within the tolerance. -/
theorem abs_altFn_sub_realAltitude_le (c : Config) {p p0 : Word} (h : p0 ≠ 0)
    (htol : 1 ≤ c.cbAltTol ∨ ∃ A : ℤ, (A : ℝ) = realAltitude p p0) :
    |((altFn c p p0).toInt : ℝ) - realAltitude p p0| ≤ c.cbAltTol := by
  by_cases heq : p = p0
  · subst heq
    simp [altFn_self, realAltitude_self h]
  · rw [altFn, if_neg heq]
    split
    next hadmissible => exact abs_sub_realAltitude_le_of_admissible h hadmissible
    next =>
      rw [toInt_altFloor h]
      exact abs_altFloor_sub_realAltitude_le h htol

end Sys2Proof.Machine
end

section
/-! The statements of `41_bus_sensor.md`. -/

namespace Sys2Proof.Proofs

open Sys2Proof.Machine Sys2Proof.Claims

/-- Settles O31: the device answers one probe with its identity, after none or one that does not match. -/
theorem constructionFindsTheDevice : Obligations.ConstructionFindsTheDevice := by
  intro s addr d n1 n2 n3 rest hid
  constructor
  · rintro rfl h
    rw [BusDevice.read_identity hid] at h
    have hfind : probesFind s.cfg d.addr [⟨n1, true, [s.cfg.cbIdExpect]⟩] d.addr
        [.i2cRead d.addr s.cfg.cbRegId 1 (some [s.cfg.cbIdExpect])] := .inl ⟨n1, rfl, rfl, rfl⟩
    exact exec_cbNew_of_device hfind rfl h
  · intro first hno hd h
    rw [BusDevice.read_identity hid] at h
    have hfind : probesFind s.cfg addr [first, ⟨n1, true, [s.cfg.cbIdExpect]⟩] d.addr
        [.i2cRead d.addr s.cfg.cbRegId 1 (some [s.cfg.cbIdExpect]), .i2cRead addr s.cfg.cbRegId 1 (recorded first)] :=
      .inr ⟨first, n1, hno, rfl, hd, by rw [hd]⟩
    exact exec_cbNew_of_device hfind rfl h

/-- Settles O32: both probes take their answers, and neither matches. -/
theorem constructionWithoutAMatchFails : Obligations.ConstructionWithoutAMatchFails := by
  intro s addr a1 a2 rest h h1 h2
  exact ⟨_, recorded a1, recorded a2, exec_cbNew_of_run (cbNew_of_noMatch h h1 h2 addr), rfl, rfl, recorded_of_ack,
    recorded_of_nack, recorded_of_ack, recorded_of_nack, rfl, rfl, rfl, rfl, rfl⟩

/-- Settles O33: after a match the burst fails, or the write after it. -/
theorem constructionOnABrokenBusFails : Obligations.ConstructionOnABrokenBusFails := by
  intro s addr found probes trail a b rest hp
  refine ⟨fun hnack h => ?_, fun hack hlen hnack h => ?_⟩ <;> obtain ⟨q, hq⟩ := cbNew_of_probesFind hp h
  · have hnew := hq.trans (cbBuild_calib_nacked rfl hnack found)
    exact ⟨_, exec_cbNew_of_run hnew, rfl, rfl, rfl, rfl, rfl, rfl, rfl, rfl, rfl, rfl⟩
  · have hnew := hq.trans (cbBuild_config_nacked rfl hack hlen hnack found)
    exact ⟨_, exec_cbNew_of_run hnew, rfl, rfl, rfl, rfl, rfl, rfl, rfl, rfl, rfl, rfl⟩

/-- Settles O35: both bursts are taken, and the pair they compensate to is committed. -/
theorem readCompensatesBothBursts : Obligations.ReadCompensatesBothBursts := by
  intro s a b rest b0 b1 b2 c0 c1 c2 p hready h hack hack' hbytes hbytes' hp
  have hread := (cbRead_acked hready h hack hbytes hack' hbytes').trans (cbCompP_some hp)
  exact exec_cbRead_of_run hread

/-- Settles O36: each clause by the statement that fails. -/
theorem failedReadsKeepTheReading : Obligations.FailedReadsKeepTheReading := by
  intro s
  refine ⟨fun h => exec_cbRead_of_run (cbRead_not_ready h),
    fun a b rest b0 b1 b2 c0 c1 c2 hready => ⟨?temp, ?press, ?denom⟩⟩
  case temp => exact fun h hnack => exec_cbRead_of_run (cbRead_temp_nacked hready h hnack)
  case press => exact fun h hack hbytes hnack => exec_cbRead_of_run (cbRead_press_nacked hready h hack hbytes hnack)
  case denom =>
    intro h hack hbytes hack' hbytes' hp
    have hread := (cbRead_acked hready h hack hbytes hack' hbytes').trans (cbCompP_none hp)
    exact exec_cbRead_of_run hread

/-- Settles O38: the two terms are bounded, so that no operator wraps. -/
theorem temperatureIsExact : Obligations.TemperatureIsExact := by
  refine ⟨fun adc k => ?_, by decide⟩
  have ha := abs_coarse_le adc k.t1
  have hb := abs_fine_le adc k.t1
  exact ⟨compT_fst_toInt adc k, compT_snd_toInt adc k, ha, (abs_mul_le ha (abs_toInt_le k.t2)).trans_lt (by norm_num),
    (le_abs_self _).trans_lt ((abs_square_le hb).trans_lt (by norm_num)), abs_linearTerm_le k.t2 ha,
    abs_quadraticTerm_le k.t3 hb, (abs_exactTemperature_fst_le adc k).trans_lt (by norm_num),
    abs_exactTemperature_snd_le adc k⟩

/-- Settles O39: operator by operator. -/
theorem pressureIsTheWrappedFormula : Obligations.PressureIsTheWrappedFormula :=
  fun adc tf k => ⟨compP_eq adc tf k, fun h => compP_of_p1_zero h adc tf, by decide⟩

/-- Settles O40: the value is admissible or the search's, and both are within the tolerance. -/
theorem altitudeIsWithinTolerance : Obligations.AltitudeIsWithinTolerance :=
  fun c _ p0 h => ⟨abs_altFn_sub_realAltitude_le c h, altFn_self c p0⟩

/-- Settles O41: a zero sea-level pressure fails, any other is answered; no statement touches a register or a bus. -/
theorem altitudeAnswers : Obligations.AltitudeAnswers := by
  intro s p p0
  constructor
  · intro h
    have hok : cbAltitude p0 s = .ok s := if_neg h
    exact congrArg (fun r : Run => Host.Outcome.next (r.finish .cbs _)) hok
  · intro h
    have hfail : cbAltitude p0 s = .err .compensationError s := if_pos h
    exact congrArg (fun r : Run => Host.Outcome.next (r.finish .cbs _)) hfail

end Sys2Proof.Proofs
end

section
/-! One rule for the display operations: what the window encoder, the data into an open window and the writes of the registers that
only DSP sees keep, every operation but `DS_NEW` keeps. -/

namespace Sys2Proof.Machine

open Sys2Proof.Claims

/-! ## Windows inside the panel -/

theorem toNat_ofNat_of_lt_edge {n edge : Nat} (h : n < edge) (he : edge ≤ 65536) : (BitVec.ofNat 16 n).toNat = n := by
  rw [BitVec.toNat_ofNat]
  exact Nat.mod_eq_of_lt (by omega)

theorem windowOk_iff {c : Config} {x0 y0 x1 y1 : Half} :
    windowOk c x0 y0 x1 y1 = true
      ↔ x0.toNat ≤ x1.toNat ∧ x1.toNat < c.panelW ∧ y0.toNat ≤ y1.toNat ∧ y1.toNat < c.panelH := decide_eq_true_iff

theorem onPanel_iff {c : Config} {px py : Nat} : onPanel c px py = true ↔ px < c.panelW ∧ py < c.panelH :=
  decide_eq_true_iff

/-- The one-pixel window of a pixel on the panel is legal (`42_display.md` R227). -/
theorem windowOk_of_onPanel {c : Config} {px py : Nat} (h : onPanel c px py = true) (hc : c.Ok) :
    windowOk c (BitVec.ofNat 16 px) (BitVec.ofNat 16 py) (BitVec.ofNat 16 px) (BitVec.ofNat 16 py) = true := by
  obtain ⟨hx, hy⟩ := onPanel_iff.mp h
  rw [windowOk_iff, toNat_ofNat_of_lt_edge hx hc.widthLe, toNat_ofNat_of_lt_edge hy hc.heightLe]
  exact ⟨Nat.le_refl _, hx, Nat.le_refl _, hy⟩

theorem rectEmpty_eq_false_iff {c : Config} {x y w h : Half} : rectEmpty c x y w h = false ↔ rectVisible c x y w h := by
  rw [rectEmpty, decide_eq_false_iff_not, rectVisible, not_or, not_or, not_or, Nat.not_le, Nat.not_le]

theorem clampSide_pos {origin edge : Nat} {side : Half} (hs : side ≠ 0) (ho : origin < edge) :
    0 < clampSide origin side.toNat edge := by
  have hpos : side.toNat ≠ 0 := fun h => hs (BitVec.eq_of_toNat_eq h)
  unfold clampSide
  omega

/-- The last column or row of a visible side is inside the panel, and fits a coordinate. -/
theorem toNat_clampedLast {origin edge : Nat} (side : Half) (ho : origin < edge) (he : edge ≤ 65536) :
    (BitVec.ofNat 16 (origin + clampSide origin side.toNat edge - 1)).toNat
      = origin + clampSide origin side.toNat edge - 1 := by
  have hle : clampSide origin side.toNat edge ≤ edge - origin := Nat.min_le_right _ _
  exact toNat_ofNat_of_lt_edge (edge := edge) (by omega) he

/-- The window of a clamped rectangle is legal (`42_display.md` R231). -/
theorem windowOk_of_visible {c : Config} {x y w h : Half} (hv : rectVisible c x y w h) (hc : c.Ok) :
    windowOk c x y (BitVec.ofNat 16 (x.toNat + clampSide x.toNat w.toNat c.panelW - 1))
      (BitVec.ofNat 16 (y.toNat + clampSide y.toNat h.toNat c.panelH - 1)) = true := by
  obtain ⟨hw, hh, hx, hy⟩ := hv
  have hwpos := clampSide_pos hw hx
  have hhpos := clampSide_pos hh hy
  have hwle : clampSide x.toNat w.toNat c.panelW ≤ c.panelW - x.toNat := Nat.min_le_right _ _
  have hhle : clampSide y.toNat h.toNat c.panelH ≤ c.panelH - y.toNat := Nat.min_le_right _ _
  rw [windowOk_iff, toNat_clampedLast w hx hc.widthLe, toNat_clampedLast h hy hc.heightLe]
  omega

/-! ## The rule -/

/-- `t` is `s` after writes of registers that neither the host nor the controller sees. -/
structure InnerWrite (s t : State) : Prop where
  cfg    : t.cfg = s.cfg
  obs    : t.obs = s.obs
  ready  : t.dsp.ready = s.dsp.ready
  stream : t.dsp.stream = s.dsp.stream
  bl     : t.dsp.bl = s.dsp.bl

/-- The parts of the display operations keep `I` where they complete and have `Q` where they fail. The window is legal where the
configuration is. -/
structure DisplayKeeps (I : State → Prop) (Q : Status → State → Prop) : Prop where
  window  : ∀ {s : State} {x0 y0 x1 y1 : Half}, I s → (s.cfg.Ok → windowOk s.cfg x0 y0 x1 y1 = true) →
    (setWindow x0 y0 x1 y1 s).Post (fun t => I t ∧ t.dsp.stream = true) Q
  data    : ∀ {s : State} (bytes : List Byte), I s → s.dsp.stream = true →
    (dsData bytes s).Post (fun t => I t ∧ t.dsp.stream = true) Q
  inner   : ∀ {s t : State}, I s → InnerWrite s t → I t

/-- So does an operation that is refused before its next transfer (`42_display.md` R220, R225, R227). -/
structure DisplayRule (I : State → Prop) (Q : Status → State → Prop) : Prop extends DisplayKeeps I Q where
  refused : ∀ {s : State} {e : Status}, I s → e ≠ .ok → e ≠ .busError → Q e s

theorem advanceCursor_inner (s : State) : InnerWrite s (advanceCursor s) := by
  have hdsp : (advanceCursor s).dsp.ready = s.dsp.ready ∧ (advanceCursor s).dsp.stream = s.dsp.stream
      ∧ (advanceCursor s).dsp.bl = s.dsp.bl := by
    unfold advanceCursor
    dsimp only
    split <;> exact ⟨rfl, rfl, rfl⟩
  obtain ⟨hready, hstream, hbl⟩ := hdsp
  exact ⟨advanceCursor_cfg s, advanceCursor_obs s, hready, hstream, hbl⟩

section
variable {I : State → Prop} {Q : Status → State → Prop} {s : State}

namespace DisplayKeeps

theorem streamChunks (k : DisplayKeeps I Q) (m n : Nat) (h : I s) (hs : s.dsp.stream = true) :
    (streamChunks m n s).Post I Q := by
  induction m generalizing n s with
  | zero => exact h
  | succ m ih =>
    have hchunk : (streamChunk n s).Post (fun t => I t ∧ t.dsp.stream = true) Q :=
      Run.post_andThen (k.data _ (k.inner h ⟨rfl, rfl, rfl, rfl, rfl⟩) hs) fun t ht =>
        ⟨k.inner ht.1 ⟨rfl, rfl, rfl, rfl, rfl⟩, ht.2⟩
    exact Run.post_andThen hchunk fun t ht => ih _ ht.1 ht.2

/-- A fill of a visible rectangle. -/
theorem fillClamped (k : DisplayKeeps I Q) {x y w h : Half} (color : Half) (hI : I s) (hv : rectVisible s.cfg x y w h) :
    (fillClamped x y (clampSide x.toNat w.toNat s.cfg.panelW) (clampSide y.toNat h.toNat s.cfg.panelH) color s).Post I Q :=
  Run.post_andThen (k.window (k.inner hI ⟨rfl, rfl, rfl, rfl, rfl⟩) (windowOk_of_visible hv)) fun _ ht =>
    k.streamChunks _ _ (k.inner ht.1 ⟨rfl, rfl, rfl, rfl, rfl⟩) ht.2

end DisplayKeeps

namespace DisplayRule

theorem pixel (k : DisplayRule I Q) (px py : Nat) (c : Half) (h : I s) : (pixel px py c s).Post I Q := by
  unfold Machine.pixel
  dsimp only
  split
  next hp =>
    refine Run.post_andThen (Run.post_andThen (k.window h (windowOk_of_onPanel hp)) fun t ht => k.data _ ht.1 ht.2)
      fun t ht => ?_
    exact k.inner ht.1 ⟨rfl, rfl, rfl, rfl, rfl⟩
  next => exact k.refused h nofun nofun

theorem glyphPixel (k : DisplayRule I Q) (g : Nat) (color : Half) (hasBg : Bool) (bg : Half) (row col : Nat) (h : I s) :
    (glyphPixel g color hasBg bg row col s).Post I Q := by
  have hscan : I (scanAt row col s) := k.inner h ⟨rfl, rfl, rfl, rfl, rfl⟩
  unfold Machine.glyphPixel
  dsimp only
  split
  · exact k.pixel _ _ _ hscan
  · split
    · exact k.pixel _ _ _ hscan
    · exact hscan

theorem drawGlyph (k : DisplayRule I Q) (g : Nat) (color : Half) (hasBg : Bool) (bg : Half) (ps : List (Nat × Nat))
    (h : I s) : (drawGlyph g color hasBg bg ps s).Post I Q := by
  induction ps generalizing s with
  | nil => exact h
  | cons p ps ih => exact Run.post_andThen (k.glyphPixel _ _ _ _ _ _ h) fun _ => ih

theorem drawChars (k : DisplayRule I Q) (color : Half) (hasBg : Bool) (bg : Half) (text : List Byte) (h : I s) :
    (drawChars color hasBg bg text s).Post I Q := by
  induction text generalizing s with
  | nil => exact h
  | cons ch rest ih =>
    refine Run.post_andThen ?_ fun _ => ih
    unfold drawChar
    split
    · exact Run.post_andThen (k.drawGlyph _ _ _ _ _ h) fun t ht => k.inner ht (advanceCursor_inner t)
    · exact h

theorem needDisplay_andThen (k : DisplayRule I Q) {f : State → Run} (h : I s) (hf : (f s).Post I Q) :
    ((needDisplay s).andThen f).Post I Q := by
  unfold needDisplay
  split
  · exact hf
  · exact k.refused h nofun nofun

theorem dsFillRect (k : DisplayRule I Q) (x y w h color : Half) (hI : I s) : (dsFillRect x y w h color s).Post I Q := by
  refine k.needDisplay_andThen hI ?_
  split
  next => exact k.inner hI ⟨rfl, rfl, rfl, rfl, rfl⟩
  next he => exact k.fillClamped color hI (rectEmpty_eq_false_iff.mp (Bool.not_eq_true _ ▸ he))

theorem dsSetWindow (k : DisplayRule I Q) (x0 y0 x1 y1 : Half) (h : I s) : (dsSetWindow x0 y0 x1 y1 s).Post I Q := by
  refine k.needDisplay_andThen h ?_
  split
  next hw => exact (k.window h fun _ => hw).mono (fun _ ht => ht.1) fun _ _ hq => hq
  next => exact k.refused h nofun nofun

theorem dsPush (k : DisplayRule I Q) (color : Half) (h : I s) : (dsPush color s).Post I Q := by
  refine k.needDisplay_andThen h ?_
  split
  next ho =>
    have hs : s.dsp.stream = true := (Bool.and_eq_true_iff.mp ho).1
    exact Run.post_andThen (k.data _ h hs) fun _ ht => k.inner ht.1 ⟨rfl, rfl, rfl, rfl, rfl⟩
  next => exact k.refused h nofun nofun

theorem dsDrawText (k : DisplayRule I Q) (x y color : Half) (hasBg : Bool) (bg : Half) (text : List Byte) (h : I s) :
    (dsDrawText x y color hasBg bg text s).Post I Q :=
  k.needDisplay_andThen h (k.drawChars _ _ _ _ (k.inner h ⟨rfl, rfl, rfl, rfl, rfl⟩))

/-- Every display operation but `DS_NEW` keeps what its parts keep. -/
theorem exec (k : DisplayRule I Q) {i : Instr} (hi : needsDisplay i = true) (h : I s) :
    ∃ r : Run, r.Post I Q ∧ exec i s = .next (r.finish .dsp noPayload) := by
  cases i with
  | dsSetWindow => exact ⟨_, k.dsSetWindow _ _ _ _ h, rfl⟩
  | dsFillRect => exact ⟨_, k.dsFillRect _ _ _ _ _ h, rfl⟩
  | dsPixel => exact ⟨_, k.needDisplay_andThen h (k.pixel _ _ _ h), rfl⟩
  | dsDrawText => exact ⟨_, k.dsDrawText _ _ _ _ _ _ h, rfl⟩
  | dsPush => exact ⟨_, k.dsPush _ h, rfl⟩
  | _ => exact nomatch hi

end DisplayRule

end

end Sys2Proof.Machine
end

section
/-! What the idle block puts on the display bus (`42_display.md` R220, R225): the data after an address command is always a bound pair
inside the panel, and no other unit's operation adds a transfer. -/

namespace Sys2Proof.Machine

open Sys2Proof.Claims

/-! ## Histories -/

section
variable {c : Config} {older : List Event}

theorem addressesInside_of_not_transfer {e : Event} (he : isTransfer e = false) (h : addressesInside c older) :
    addressesInside c (e :: older) := by
  cases e with
  | spiCmd | spiData => exact nomatch he
  | _ => exact h

theorem addressesInside_append {new : List Event} (hnew : ∀ e ∈ new, isTransfer e = false) (h : addressesInside c older) :
    addressesInside c (new ++ older) := by
  induction new with
  | nil => exact h
  | cons e new ih =>
    obtain ⟨he, hnew⟩ := List.forall_mem_cons.mp hnew
    exact addressesInside_of_not_transfer he (ih hnew)

theorem addressesInside_spiCmd (op : Byte) (ok : Bool) (h : addressesInside c older) :
    addressesInside c (.spiCmd op ok :: older) := h

/-- Data goes after a command, whose bounds it is where that is an address command, or after something else. -/
theorem addressesInside_spiData {bytes : List Byte} (ok : Bool) (h : addressesInside c older)
    (hcaset : ∀ a l, older = .spiCmd c.dsOpCaset a :: l → boundsInside c.panelW bytes)
    (hraset : ∀ a l, older = .spiCmd c.dsOpRaset a :: l → boundsInside c.panelH bytes) :
    addressesInside c (.spiData bytes ok :: older) := by
  cases older with
  | nil => trivial
  | cons e l =>
    cases e with
    | spiCmd op a =>
      refine ⟨?_, ?_, h⟩
      · rintro rfl
        exact hcaset a l rfl
      · rintro rfl
        exact hraset a l rfl
    | _ => exact h

end

/-! ## States -/

theorem busSafe_of_eq {s t : State} (h : s.BusSafe) (hcfg : t.cfg = s.cfg) (hevents : t.obs.events = s.obs.events)
    (hstream : t.dsp.stream = s.dsp.stream) : t.BusSafe := by
  obtain ⟨hinside, hlast⟩ := h
  rw [← hcfg, ← hevents] at hinside
  rw [← hcfg, ← hevents, ← hstream] at hlast
  exact ⟨hinside, hlast⟩

/-- What was put in front of the history is no transfer. -/
theorem busSafe_of_quiet {s t : State} {new : List Event} (h : s.BusSafe) (hcfg : t.cfg = s.cfg)
    (hevents : t.obs.events = new ++ s.obs.events) (hnew : ∀ e ∈ new, isTransfer e = false)
    (hdsp : t.dsp = s.dsp) : t.BusSafe := by
  refine ⟨?_, fun hs op ok older hop => ?_⟩
  · rw [hcfg, hevents]
    exact addressesInside_append hnew h.inside
  · rw [hevents] at hop
    cases new with
    | nil =>
      rw [hcfg]
      exact h.lastSent (hdsp ▸ hs) op ok older hop
    | cons e new =>
      obtain ⟨rfl, _⟩ := List.cons.inj hop
      exact nomatch hnew _ List.mem_cons_self

theorem busSafe_respond {s : State} (u : BlockUnit) (p : List Byte) (h : s.BusSafe) : (s.respond u p).BusSafe := by
  cases u <;> exact busSafe_of_eq h rfl rfl rfl

theorem busSafe_fail {s : State} (u : BlockUnit) (e : Status) (h : s.BusSafe) : (s.fail u e).BusSafe := by
  cases u <;> exact busSafe_of_eq h rfl rfl rfl

theorem busSafe_finish {u : BlockUnit} {p : State → List Byte} {r : Run} (h : r.Ends State.BusSafe) :
    (r.finish u p).BusSafe := Run.finish_ends h (fun q _ => busSafe_respond u q) fun e _ => busSafe_fail u e

/-! ## The sensors -/

/-- A measurement puts its pulse and samples into the history. -/
theorem busSafe_exec_swMeasure {s t : State} (h : s.BusSafe) (he : exec .swMeasure s = .next t) : t.BusSafe := by
  by_cases hg : gateShut s
  · obtain rfl := Host.Outcome.next.inj (he.symm.trans (exec_swMeasure_of_shut hg))
    exact busSafe_respond .sws [] h
  · obtain ⟨l, m, hl, -, hend⟩ := exec_swMeasure_cases hg
    have hm : m.BusSafe := by
      refine busSafe_of_quiet (new := l.map Event.lineSample ++ (pulseEvents s.cfg).reverse) h
        (hl.cfg.trans (startPulse_cfg s)) hl.events_after_startPulse ?_ (hl.dsp.trans (startPulse_dsp s))
      simp only [pulseEvents, List.mem_append, List.mem_map, List.mem_reverse, List.mem_cons, List.not_mem_nil, or_false]
      rintro e (⟨v, _, rfl⟩ | rfl | rfl | rfl | rfl | rfl | rfl | rfl) <;> rfl
    rcases hend with ⟨hok, -⟩ | ⟨e, -, hfail, -⟩
    · obtain rfl := Host.Outcome.next.inj (he.symm.trans hok)
      exact busSafe_respond .sws [] hm
    · obtain rfl := Host.Outcome.next.inj (he.symm.trans hfail)
      exact busSafe_fail .sws e hm

section
variable {s : State}

theorem busSafe_needReading (h : s.BusSafe) : (needReading s).Ends State.BusSafe := by
  unfold needReading
  split <;> exact h

theorem busSafe_i2cRead (a : BitVec 7) (reg : Byte) (n : Nat) (h : s.BusSafe) : (i2cRead a reg n s).2.BusSafe := by
  obtain ⟨hcfg, _, _, _, hdsp, _, _, _, hobs⟩ := i2cRead_frame a reg n s
  exact busSafe_of_quiet (new := [_]) h hcfg (congrArg Obs.events hobs) (by simp [isTransfer]) hdsp

theorem busSafe_i2cWrite (a : BitVec 7) (reg : Byte) (bytes : List Byte) (h : s.BusSafe) :
    (i2cWrite a reg bytes s).2.BusSafe := by
  obtain ⟨hcfg, _, _, _, hdsp, _, _, _, hobs⟩ := i2cWrite_frame a reg bytes s
  exact busSafe_of_quiet (new := [_]) h hcfg (congrArg Obs.events hobs) (by simp [isTransfer]) hdsp

theorem busSafe_cbAt (q : CbSeq) (h : s.BusSafe) : (s.cbAt q).BusSafe := busSafe_of_eq h rfl rfl rfl

theorem busSafe_probe (addr : BitVec 7) (second : Bool) (h : s.BusSafe) : (probe addr second s).2.BusSafe :=
  busSafe_i2cRead _ _ _ (busSafe_cbAt _ h)

theorem busSafe_cbCalib (found : BitVec 7) (h : s.BusSafe) : (cbCalib found s).Ends State.BusSafe := by
  have hr := busSafe_i2cRead found s.cfg.cbRegCalib Config.calibLen (busSafe_cbAt (.calib found) h)
  unfold cbCalib
  dsimp only
  split <;> exact busSafe_of_eq hr rfl rfl rfl

theorem busSafe_cbConfig (found : BitVec 7) (h : s.BusSafe) : (cbConfig found s).Ends State.BusSafe := by
  have hw := busSafe_i2cWrite found s.cfg.cbRegCtrl [s.cfg.cbCtrlValue] (busSafe_cbAt (.config found) h)
  unfold cbConfig
  dsimp only
  split
  · exact hw
  · exact busSafe_of_eq hw rfl rfl rfl

theorem busSafe_cbBuild (found : BitVec 7) (h : s.BusSafe) : (cbBuild found s).Ends State.BusSafe :=
  Run.ends_andThen (Run.ends_andThen (busSafe_cbCalib found h) fun _ => busSafe_cbConfig found) fun _ ht =>
    busSafe_of_eq ht rfl rfl rfl

theorem busSafe_cbNew (addr : BitVec 7) (h : s.BusSafe) : (cbNew addr s).Ends State.BusSafe := by
  have hentry : (cbEntry addr s).BusSafe := busSafe_of_eq h rfl rfl rfl
  have hfirst := busSafe_probe addr false hentry
  have hsecond := busSafe_probe addr true hfirst
  unfold cbNew
  dsimp only
  split
  · exact busSafe_cbBuild _ hfirst
  · split
    · exact busSafe_cbBuild _ hsecond
    · exact hsecond

theorem busSafe_cbCheck (h : s.BusSafe) : (cbCheck s).Ends State.BusSafe := by
  unfold cbCheck
  split
  · exact busSafe_cbAt _ h
  · exact h

theorem busSafe_cbReadT (h : s.BusSafe) : (cbReadT s).Ends State.BusSafe := by
  have hr := busSafe_i2cRead s.cbs.addr s.cfg.cbRegTemp 3 (busSafe_cbAt .rdT h)
  unfold cbReadT
  dsimp only
  split
  · exact hr
  · exact busSafe_of_eq hr rfl rfl rfl

theorem busSafe_cbReadP (h : s.BusSafe) : (cbReadP s).Ends State.BusSafe := by
  have hr := busSafe_i2cRead s.cbs.addr s.cfg.cbRegPress 3 (busSafe_cbAt .rdP h)
  unfold cbReadP
  dsimp only
  split
  · exact hr
  · exact busSafe_of_eq hr rfl rfl rfl

theorem busSafe_cbCompP (h : s.BusSafe) : (cbCompP s).Ends State.BusSafe := by
  unfold cbCompP
  split <;> exact busSafe_of_eq h rfl rfl rfl

theorem busSafe_cbRead (h : s.BusSafe) : (cbRead s).Ends State.BusSafe :=
  Run.ends_andThen (Run.ends_andThen (Run.ends_andThen (busSafe_cbCheck h) fun _ => busSafe_cbReadT) fun _ =>
    busSafe_cbReadP) fun _ ht => busSafe_cbCompP (busSafe_of_eq ht rfl rfl rfl)

theorem busSafe_cbAltitude (p0 : Word) (h : s.BusSafe) : (cbAltitude p0 s).Ends State.BusSafe := by
  unfold cbAltitude
  split <;> exact h

end

/-- An instruction of SWS or CBS adds no transfer. -/
theorem busSafe_exec_sensor {i : Instr} {s t : State} (hi : isSws i = true ∨ isCbs i = true) (h : s.BusSafe)
    (he : exec i s = .next t) : t.BusSafe := by
  cases i with
  | swMeasure => exact busSafe_exec_swMeasure h he
  | swTemperature | swHumidity =>
    cases he
    exact busSafe_finish (busSafe_needReading h)
  | cbNew addr =>
    cases he
    exact busSafe_finish (busSafe_cbNew addr h)
  | cbRead =>
    cases he
    exact busSafe_finish (busSafe_cbRead h)
  | cbAltitude p p0 =>
    cases he
    exact busSafe_finish (busSafe_cbAltitude p0 h)
  | _ => exact absurd hi (by simp [isSws, isCbs])

/-! ## The display

Between the transfers of an operation the last thing sent may be an address command, so what they keep is said of the history alone. -/

/-- Where the parameters are `c`: only bound pairs inside the panel have followed an address command. -/
structure SentInside (c : Config) (s : State) : Prop where
  cfg    : s.cfg = c
  inside : addressesInside c s.obs.events

/-- Where the parameters are `c`, the bus is safe. -/
structure SafeWith (c : Config) (s : State) : Prop where
  cfg  : s.cfg = c
  safe : s.BusSafe

theorem SafeWith.sentInside {c : Config} {s : State} (h : SafeWith c s) : SentInside c s :=
  ⟨h.cfg, h.cfg ▸ h.safe.inside⟩

/-- With the stream dropped nothing is asked of the last thing sent. -/
theorem SentInside.safeWith {c : Config} {s : State} (h : SentInside c s) (hs : s.dsp.stream = false) : SafeWith c s :=
  ⟨h.cfg, h.cfg ▸ h.inside, fun ht => nomatch ht.symm.trans hs⟩

/-- After the command `op` and nothing later. -/
structure SentAfter (c : Config) (op : Byte) (s : State) : Prop extends SentInside c s where
  last : ∃ ok older, s.obs.events = .spiCmd op ok :: older

section
variable {c : Config} {s : State}

/-- A command. -/
theorem sentAfter_dsCmd (op : Byte) (h : SentInside c s) : (dsCmd op s).Post (SentAfter c op) fun _ => SafeWith c := by
  have hkeep {ok : Bool} {t : State} (ht : Transferred (.spiCmd op ok) false s t) : SentInside c t :=
    ⟨ht.cfg.trans h.cfg, by rw [ht.obs]; exact addressesInside_spiCmd op ok h.inside⟩
  rcases dsCmd_cases op s with ⟨t, hr, ht⟩ | ⟨t, hr, ht⟩ <;> rw [hr]
  · exact ⟨hkeep ht, true, s.obs.events, by rw [ht.obs]⟩
  · have hsent := hkeep ht
    exact SentInside.safeWith ⟨hsent.cfg, hsent.inside⟩ rfl

/-- Data that is bounds inside the panel where it follows an address command. -/
theorem sentInside_dsData {bytes : List Byte} (h : SentInside c s)
    (hcaset : ∀ a l, s.obs.events = .spiCmd c.dsOpCaset a :: l → boundsInside c.panelW bytes)
    (hraset : ∀ a l, s.obs.events = .spiCmd c.dsOpRaset a :: l → boundsInside c.panelH bytes) :
    (dsData bytes s).Post
      (fun t => SafeWith c t ∧ t.dsp.stream = s.dsp.stream) fun _ => SafeWith c := by
  have hkeep {ok : Bool} {t : State} (ht : Transferred (.spiData bytes ok) true s t) : SentInside c t :=
    ⟨ht.cfg.trans h.cfg, by rw [ht.obs]; exact addressesInside_spiData ok h.inside hcaset hraset⟩
  rcases dsData_cases bytes s with ⟨t, hr, ht⟩ | ⟨t, hr, ht⟩ <;> rw [hr]
  · have hsent := hkeep ht
    refine ⟨⟨hsent.cfg, by rw [hsent.cfg]; exact hsent.inside, fun _ op ok older hop => ?_⟩, by rw [ht.dsp]⟩
    rw [ht.obs] at hop
    exact nomatch (List.cons.inj hop).1
  · have hsent := hkeep ht
    exact SentInside.safeWith ⟨hsent.cfg, hsent.inside⟩ rfl

/-- The data after a command: bounds inside the panel if that is an address command. -/
theorem sentAfter_dsData {op : Byte} {bytes : List Byte} (h : SentAfter c op s)
    (hcaset : op = c.dsOpCaset → boundsInside c.panelW bytes) (hraset : op = c.dsOpRaset → boundsInside c.panelH bytes) :
    (dsData bytes s).Post (fun t => SafeWith c t ∧ t.dsp.stream = s.dsp.stream) fun _ => SafeWith c := by
  obtain ⟨ok, older, hlast⟩ := h.last
  refine sentInside_dsData h.toSentInside (fun a l he => ?_) fun a l he => ?_
  · exact hcaset (by injection hlast.symm.trans he with he; injection he)
  · exact hraset (by injection hlast.symm.trans he with he; injection he)

theorem safeWith_sendCaset {lo hi : Half} (hd : c.AddressOpsDistinct) (h : SentInside c s)
    (hb : boundsInside c.panelW (boundBytes lo hi)) : (sendCaset lo hi s).Post (SafeWith c) fun _ => SafeWith c := by
  obtain ⟨rfl, _⟩ := id h
  refine Run.post_andThen (sentAfter_dsCmd s.cfg.dsOpCaset h) fun t ht => ?_
  exact (sentAfter_dsData ht (fun _ => hb) fun he => absurd he hd.casetRaset).mono (fun _ hu => hu.1) fun _ _ => id

theorem safeWith_sendRaset {lo hi : Half} (hd : c.AddressOpsDistinct) (h : SentInside c s)
    (hb : boundsInside c.panelH (boundBytes lo hi)) : (sendRaset lo hi s).Post (SafeWith c) fun _ => SafeWith c := by
  obtain ⟨rfl, _⟩ := id h
  refine Run.post_andThen (sentAfter_dsCmd s.cfg.dsOpRaset h) fun t ht => ?_
  exact (sentAfter_dsData ht (fun he => absurd he hd.casetRaset.symm) fun _ => hb).mono (fun _ hu => hu.1) fun _ _ => id

theorem sentAfter_sendRamwr (h : SentInside c s) :
    (sendRamwr s).Post (SentAfter c c.dsOpRamwr) fun _ => SafeWith c := by
  obtain ⟨rfl, _⟩ := id h
  exact sentAfter_dsCmd s.cfg.dsOpRamwr h

/-- The window opens after the memory-write. -/
theorem safeWith_openWindow (x0 y0 x1 y1 : Half) (hd : c.AddressOpsDistinct) (h : SentAfter c c.dsOpRamwr s) :
    SafeWith c (openWindow x0 y0 x1 y1 s) := by
  obtain ⟨⟨rfl, hin⟩, _, _, hlast⟩ := h
  refine ⟨rfl, hin, fun _ op a l he => ?_⟩
  obtain ⟨rfl, _⟩ := Event.spiCmd.inj (List.cons.inj (hlast.symm.trans he)).1
  exact ⟨hd.casetRamwr.symm, hd.rasetRamwr.symm⟩

/-- The bounds of a legal window go to the bus, and it ends open. -/
theorem safeWith_setWindow {x0 y0 x1 y1 : Half} (hd : c.AddressOpsDistinct) (h : SentInside c s)
    (hw : windowOk c x0 y0 x1 y1 = true) :
    (setWindow x0 y0 x1 y1 s).Post (fun t => SafeWith c t ∧ t.dsp.stream = true) fun _ => SafeWith c := by
  obtain ⟨hx, hx1, hy, hy1⟩ := windowOk_iff.mp hw
  have hcols : boundsInside c.panelW (boundBytes x0 x1) := ⟨x0, x1, rfl, hx, hx1⟩
  have hrows : boundsInside c.panelH (boundBytes y0 y1) := ⟨y0, y1, rfl, hy, hy1⟩
  exact Run.post_andThen (Run.post_andThen (Run.post_andThen (safeWith_sendCaset hd h hcols)
    fun _ ht => safeWith_sendRaset hd ht.sentInside hrows) fun _ ht => sentAfter_sendRamwr ht.sentInside)
    fun _ ht => ⟨safeWith_openWindow x0 y0 x1 y1 hd ht, rfl⟩

/-- With the window open the last thing sent was no address command, so data is pixels. -/
theorem safeWith_dsData (bytes : List Byte) (h : SafeWith c s) (hs : s.dsp.stream = true) :
    (dsData bytes s).Post (fun t => SafeWith c t ∧ t.dsp.stream = true) fun _ => SafeWith c := by
  obtain ⟨rfl, hsafe⟩ := h
  rw [← hs]
  refine sentInside_dsData (SafeWith.sentInside ⟨rfl, hsafe⟩) (fun a l he => ?_) fun a l he => ?_
  · exact absurd rfl (hsafe.lastSent hs _ a l he).1
  · exact absurd rfl (hsafe.lastSent hs _ a l he).2

/-- The display operations keep the bus safe. -/
theorem safeWith_displayRule (hc : c.Ok) (hd : c.AddressOpsDistinct) : DisplayRule (SafeWith c) fun _ => SafeWith c where
  window := fun h hw => safeWith_setWindow hd h.sentInside (by rw [h.cfg] at hw; exact hw hc)
  data := safeWith_dsData
  inner := fun h k => ⟨k.cfg.trans h.cfg, busSafe_of_eq h.safe k.cfg (congrArg Obs.events k.obs) k.stream⟩
  refused := fun h _ _ => h

/-! ### DS_NEW -/

/-- During `DS_NEW`: nothing is asked of the last thing sent, because the stream is dropped. -/
structure SentDropped (c : Config) (s : State) : Prop extends SentInside c s where
  dropped : s.dsp.stream = false

theorem sentDropped_quiet {s t : State} (e : Event) (he : isTransfer e = false) (h : SentDropped c s) (hcfg : t.cfg = s.cfg)
    (hevents : t.obs.events = e :: s.obs.events) (hstream : t.dsp.stream = s.dsp.stream) : SentDropped c t :=
  ⟨⟨hcfg.trans h.cfg, by rw [hevents]; exact addressesInside_of_not_transfer he h.inside⟩, hstream.trans h.dropped⟩

/-- An entry of the table: its opcode is no address command. -/
theorem sentDropped_sendInit (hd : c.AddressOpsDistinct) (k : Fin 16) (h : SentDropped c s) :
    (sendInit k s).Post (SentDropped c) fun _ => SafeWith c := by
  have hcmd : (dsCmd s.cfg.dsInitSeq[k].op s).Post (fun t => SentAfter c s.cfg.dsInitSeq[k].op t ∧ t.dsp.stream = false)
      fun _ => SafeWith c := by
    have hr := sentAfter_dsCmd s.cfg.dsInitSeq[k].op h.toSentInside
    rcases dsCmd_cases s.cfg.dsInitSeq[k].op s with ⟨t, he, ht⟩ | ⟨t, he, ht⟩ <;> rw [he] at hr ⊢
    · exact ⟨hr, by rw [ht.dsp]; exact h.dropped⟩
    · exact hr
  unfold sendInit sendEntry
  refine Run.post_andThen (P := SentDropped c) (Run.post_andThen hcmd fun t ht => ?_) fun t ht => ?_
  · obtain ⟨hlast, hdropped⟩ := ht
    split
    · exact ⟨hlast.toSentInside, hdropped⟩
    · rw [h.cfg] at hlast ⊢
      refine (sentAfter_dsData hlast (fun he => absurd he (hd.initCaset k)) fun he => absurd he (hd.initRaset k)).mono
        (fun u hu => ?_) fun _ _ => id
      exact ⟨hu.1.sentInside, hu.2.trans hdropped⟩
  · exact sentDropped_quiet (.delay _) rfl ht rfl rfl rfl

theorem sentDropped_initLoop (hd : c.AddressOpsDistinct) (ks : List (Fin 16)) (h : SentDropped c s) :
    (initLoop ks s).Post (SentDropped c) fun _ => SafeWith c := by
  induction ks generalizing s with
  | nil => exact h
  | cons k ks ih =>
    exact Run.post_andThen (sentDropped_sendInit hd k ⟨⟨h.cfg, h.inside⟩, h.dropped⟩) fun _ => ih

theorem sentDropped_backlightOn (h : SentDropped c s) : SentDropped c (backlightOn s) := by
  unfold backlightOn
  split
  · exact sentDropped_quiet (.pin .bl true) rfl h rfl rfl rfl
  · exact ⟨⟨h.cfg, h.inside⟩, h.dropped⟩

theorem safeWith_dsNew (hd : c.AddressOpsDistinct) (h : SentInside c s) :
    (dsNew s).Post (SafeWith c) fun _ => SafeWith c := by
  have hreset : SentDropped c (hardReset (dsEntry s)) := ⟨⟨h.cfg, h.inside⟩, rfl⟩
  refine Run.post_andThen (sentDropped_initLoop hd _ hreset) fun t ht => ?_
  have hlit := sentDropped_backlightOn ht
  exact SentInside.safeWith ⟨hlit.cfg, hlit.inside⟩ hlit.dropped

end

/-- A host command of DSP sends no bounds outside the panel. -/
theorem busSafe_exec_display {i : Instr} {s t : State} (hi : needsDisplay i = true ∨ i = .dsNew) (hc : s.cfg.Ok)
    (hd : s.cfg.AddressOpsDistinct) (h : s.BusSafe) (he : exec i s = .next t) : t.BusSafe := by
  have hs : SafeWith s.cfg s := ⟨rfl, h⟩
  obtain ⟨r, hr, hexec⟩ : ∃ r : Run, r.Post (SafeWith s.cfg) (fun _ => SafeWith s.cfg)
      ∧ exec i s = .next (r.finish .dsp noPayload) := by
    rcases hi with hi | rfl
    · exact (safeWith_displayRule hc hd).exec hi hs
    · exact ⟨_, safeWith_dsNew hd hs.sentInside, rfl⟩
  obtain rfl := Host.Outcome.next.inj (he.symm.trans hexec)
  refine busSafe_finish ?_
  cases r <;> exact SafeWith.safe hr

theorem command_cases {i : Instr} (hi : i.isCommand = true) :
    (isSws i = true ∨ isCbs i = true) ∨ needsDisplay i = true ∨ i = .dsNew := by
  cases i with
  | swMeasure | swTemperature | swHumidity => exact .inl (.inl rfl)
  | cbNew | cbRead | cbAltitude => exact .inl (.inr rfl)
  | dsSetWindow | dsFillRect | dsPixel | dsDrawText | dsPush => exact .inr (.inl rfl)
  | dsNew => exact .inr (.inr rfl)
  | _ => exact nomatch hi

/-- Every host command keeps the bus safe. -/
theorem busSafe_exec {i : Instr} {s t : State} (hi : i.isCommand = true) (hc : s.cfg.Ok) (hd : s.cfg.AddressOpsDistinct)
    (h : s.BusSafe) (he : exec i s = .next t) : t.BusSafe := by
  rcases command_cases hi with hsensor | hdisplay
  · exact busSafe_exec_sensor hsensor h he
  · exact busSafe_exec_display hdisplay hc hd h he

/-- A step of the idle block keeps the bus safe. -/
theorem busSafe_step_idle {s t : State} (hb : s.busy = false) (hc : s.cfg.Ok) (hd : s.cfg.AddressOpsDistinct)
    (h : s.BusSafe) (ht : step s = .next t) : t.BusSafe := by
  rcases step_idle_cases hb ht with ⟨_, rfl⟩ | ⟨_, _, _, rfl⟩ | ⟨op, bytes, rest, i, _, hdec, he⟩ | ⟨_, _, _, _, _, _, rfl⟩
  · exact busSafe_of_eq h rfl rfl rfl
  · exact busSafe_of_eq h rfl rfl rfl
  · have haccepted : (s.withPort rest).accept.BusSafe := busSafe_of_eq h rfl rfl rfl
    exact busSafe_exec (s := (s.withPort rest).accept) (isPacketOf_of_decode hdec).isCommand hc hd haccepted he
  · exact busSafe_of_eq h rfl rfl rfl

end Sys2Proof.Machine
end

section
/-! A display operation that fails (`42_display.md` R200, R201): what it is refused with before any transfer, and what a failed transfer
leaves. -/

namespace Sys2Proof.Machine

open Sys2Proof.Claims

/-! ## Refusals -/

theorem needDisplay_ready {s : State} (h : s.dsp.ready = true) : needDisplay s = .ok s := if_pos h

theorem needDisplay_not_ready {s : State} (h : s.dsp.ready = false) : needDisplay s = .err .notReadyError s :=
  if_neg (by rw [h]; nofun)

section
variable {s : State}

theorem dsSetWindow_ready {x0 y0 x1 y1 : Half} (h : s.dsp.ready = true) :
    dsSetWindow x0 y0 x1 y1 s
      = if windowOk s.cfg x0 y0 x1 y1 then setWindow x0 y0 x1 y1 s else .err .boundsError s := by
  rw [dsSetWindow, needDisplay_ready h, Run.ok_andThen]

theorem dsPixel_ready {x y color : Half} (h : s.dsp.ready = true) :
    dsPixel x y color s = pixel x.toNat y.toNat color s := by
  rw [dsPixel, needDisplay_ready h, Run.ok_andThen]

theorem pixel_outside {px py : Nat} (h : ¬ (px < s.cfg.panelW ∧ py < s.cfg.panelH)) (c : Half) :
    pixel px py c s = .err .boundsError s := if_neg fun hp => h (onPanel_iff.mp hp)

theorem dsPush_ready {color : Half} (h : s.dsp.ready = true) :
    dsPush color s = if streamOpen s.dsp then (dsData (pixelBytes color) s).andThen fun s => .ok (spend 1 s)
      else .err .boundsError s := by
  rw [dsPush, needDisplay_ready h, Run.ok_andThen]

theorem dsFillRect_visible {x y w h color : Half} (hr : s.dsp.ready = true) (hv : rectVisible s.cfg x y w h) :
    dsFillRect x y w h color s
      = fillClamped x y (clampSide x.toNat w.toNat s.cfg.panelW) (clampSide y.toNat h.toNat s.cfg.panelH) color s := by
  rw [dsFillRect, needDisplay_ready hr, Run.ok_andThen, rectEmpty_eq_false_iff.mpr hv]
  rfl

theorem dsFillRect_empty {x y w h color : Half} (hr : s.dsp.ready = true) (hv : ¬ rectVisible s.cfg x y w h) :
    dsFillRect x y w h color s = .ok (s.dsAt (.clamp x y w h color)) := by
  have he : rectEmpty s.cfg x y w h = true := by
    rwa [← rectEmpty_eq_false_iff, Bool.not_eq_false] at hv
  rw [dsFillRect, needDisplay_ready hr, Run.ok_andThen, if_pos he]

theorem streamOpen_iff {d : Dsp} : streamOpen d = true ↔ d.stream = true ∧ d.remain ≠ 0 := by
  simp [streamOpen]

/-- A display operation without a display sends nothing. -/
theorem exec_not_ready {i : Instr} (hi : needsDisplay i = true) (h : s.dsp.ready = false) :
    exec i s = .next (s.fail .dsp .notReadyError) := by
  have hfail (f : State → Run) :
      ((needDisplay s).andThen f).finish .dsp noPayload = s.fail .dsp .notReadyError := by
    rw [needDisplay_not_ready h]
    rfl
  cases i with
  | dsSetWindow | dsFillRect | dsPixel | dsDrawText | dsPush => exact congrArg _ (hfail _)
  | _ => exact nomatch hi

theorem exec_dsSetWindow_of_run {x0 y0 x1 y1 : Half} {r : Run} (h : dsSetWindow x0 y0 x1 y1 s = r) :
    exec (.dsSetWindow x0 y0 x1 y1) s = .next (r.finish .dsp noPayload) := h ▸ rfl

theorem exec_dsPixel_of_run {x y color : Half} {r : Run} (h : dsPixel x y color s = r) :
    exec (.dsPixel x y color) s = .next (r.finish .dsp noPayload) := h ▸ rfl

theorem exec_dsPush_of_run {color : Half} {r : Run} (h : dsPush color s = r) :
    exec (.dsPush color) s = .next (r.finish .dsp noPayload) := h ▸ rfl

theorem exec_dsFillRect_of_run {x y w h color : Half} {r : Run} (hr : dsFillRect x y w h color s = r) :
    exec (.dsFillRect x y w h color) s = .next (r.finish .dsp noPayload) := hr ▸ rfl

theorem exec_dsDrawText_of_run {x y color : Half} {hasBg : Bool} {bg : Half} {text : List Byte} {r : Run}
    (h : dsDrawText x y color hasBg bg text s = r) :
    exec (.dsDrawText x y color hasBg bg text) s = .next (r.finish .dsp noPayload) := h ▸ rfl

end

/-! ## Failed transfers -/

/-- `DS_BL` is as it was, and no response has been given. -/
structure BacklightKept (s t : State) : Prop where
  bl        : t.dsp.bl = s.dsp.bl
  responses : t.obs.responses = s.obs.responses

/-- `DS_BL` is as it was; if a transfer has failed, no pixel is counted any more (`42_display.md` R200). -/
structure CountDropped (s : State) (e : Status) (t : State) : Prop extends BacklightKept s t where
  remain : e = .busError → t.dsp.remain = 0

theorem BacklightKept.refl (s : State) : BacklightKept s s := ⟨rfl, rfl⟩

section
variable {s t : State}

theorem backlightKept_transfer {r : Run} {e f : Event} {dc : Bool} (h : BacklightKept s t)
    (hr : (∃ u, r = .ok u ∧ Transferred e dc t u) ∨ ∃ u, r = .err .busError (dropStream u) ∧ Transferred f dc t u) :
    r.Post (fun u => BacklightKept s u ∧ u.dsp.stream = t.dsp.stream) (CountDropped s) := by
  rcases hr with ⟨u, rfl, k⟩ | ⟨u, rfl, k⟩
  · exact ⟨⟨by rw [k.dsp]; exact h.bl, by rw [k.obs]; exact h.responses⟩, by rw [k.dsp]⟩
  · refine ⟨⟨?_, ?_⟩, fun _ => rfl⟩
    · rw [dropStream_dsp, k.dsp]
      exact h.bl
    · rw [dropStream_obs, k.obs]
      exact h.responses

theorem backlightKept_dsCmd (b : Byte) (h : BacklightKept s t) :
    (dsCmd b t).Post (BacklightKept s) (CountDropped s) :=
  (backlightKept_transfer h (dsCmd_cases b t)).mono (fun _ hu => hu.1) fun _ _ => id

theorem backlightKept_dsData (bytes : List Byte) (h : BacklightKept s t) :
    (dsData bytes t).Post (BacklightKept s) (CountDropped s) :=
  (backlightKept_transfer h (dsData_cases bytes t)).mono (fun _ hu => hu.1) fun _ _ => id

theorem backlightKept_sendCaset (lo hi : Half) (h : BacklightKept s t) :
    (sendCaset lo hi t).Post (BacklightKept s) (CountDropped s) :=
  Run.post_andThen (backlightKept_dsCmd _ h) fun _ => backlightKept_dsData _

theorem backlightKept_sendRaset (lo hi : Half) (h : BacklightKept s t) :
    (sendRaset lo hi t).Post (BacklightKept s) (CountDropped s) :=
  Run.post_andThen (backlightKept_dsCmd _ h) fun _ => backlightKept_dsData _

theorem backlightKept_setWindow (x0 y0 x1 y1 : Half) (h : BacklightKept s t) :
    (setWindow x0 y0 x1 y1 t).Post (fun u => BacklightKept s u ∧ u.dsp.stream = true) (CountDropped s) :=
  Run.post_andThen (Run.post_andThen (Run.post_andThen (backlightKept_sendCaset x0 x1 h)
    fun _ => backlightKept_sendRaset y0 y1) fun _ => backlightKept_dsCmd _) fun _ hu => ⟨⟨hu.bl, hu.responses⟩, rfl⟩

theorem backlightKept_displayRule (s : State) : DisplayRule (BacklightKept s) (CountDropped s) where
  window := fun h _ => backlightKept_setWindow _ _ _ _ h
  data := fun bytes h hs => hs ▸ backlightKept_transfer h (dsData_cases bytes _)
  inner := fun h k => ⟨k.bl.trans h.bl, (congrArg Obs.responses k.obs).trans h.responses⟩
  refused := fun h _ hbus => ⟨h, fun he => absurd he hbus⟩

theorem backlightKept_sendInit (k : Fin 16) (h : BacklightKept s t) :
    (sendInit k t).Post (BacklightKept s) (CountDropped s) := by
  refine Run.post_andThen (P := BacklightKept s) (Run.post_andThen (backlightKept_dsCmd _ h) fun u hu => ?_) fun _ hu =>
    ⟨hu.bl, hu.responses⟩
  split
  · exact hu
  · exact backlightKept_dsData _ hu

theorem backlightKept_initLoop (ks : List (Fin 16)) (h : BacklightKept s t) :
    (initLoop ks t).Post (BacklightKept s) (CountDropped s) := by
  induction ks generalizing t with
  | nil => exact h
  | cons k ks ih => exact Run.post_andThen (backlightKept_sendInit k ⟨h.bl, h.responses⟩) fun _ => ih

/-- `DS_NEW` turns the backlight on only where it succeeds. -/
theorem countDropped_dsNew (s : State) :
    (dsNew s).Post (fun t => t.obs.responses = s.obs.responses) (CountDropped s) := by
  have hreset : BacklightKept s (hardReset (dsEntry s)) := ⟨rfl, rfl⟩
  exact Run.post_andThen (backlightKept_initLoop _ hreset) fun t ht => (backlightOn_responses t).trans ht.responses

/-- Every instruction of DSP ends as an operation or as a statement of one, and where it fails has dropped what it must. -/
theorem exec_countDropped {i : Instr} (hs : isSws i = false) (hc : isCbs i = false) (s : State) :
    ∃ r : Run, r.Post (fun t => t.obs.responses = s.obs.responses) (CountDropped s)
      ∧ (exec i s = .next (r.finish .dsp noPayload) ∨ exec i s = .next r.statement) := by
  have hkept : ∀ {r : Run}, r.Post (BacklightKept s) (CountDropped s) →
      r.Post (fun t => t.obs.responses = s.obs.responses) (CountDropped s) :=
    fun hr => hr.mono (fun _ ht => ht.responses) fun _ _ => id
  have hrefl := BacklightKept.refl s
  cases hi : needsDisplay i with
  | true =>
    obtain ⟨r, hr, he⟩ := (backlightKept_displayRule s).exec hi hrefl
    exact ⟨r, hkept hr, .inl he⟩
  | false =>
    cases i with
    | dsNew => exact ⟨_, countDropped_dsNew s, .inl rfl⟩
    | dsOpSwreset | dsOpSlpout | dsOpMadctl | dsOpColmod | dsOpPorctrl | dsOpGctrl | dsOpVcoms | dsOpLcmctrl
    | dsOpPwr1 | dsOpPwr2 | dsOpPwr3 | dsOpFrctrl | dsOpPvgam | dsOpNvgam | dsOpInvon | dsOpDispon =>
      exact ⟨_, hkept (backlightKept_sendInit _ hrefl), .inr rfl⟩
    | dsOpCaset => exact ⟨_, hkept (backlightKept_sendCaset _ _ hrefl), .inr rfl⟩
    | dsOpRaset => exact ⟨_, hkept (backlightKept_sendRaset _ _ hrefl), .inr rfl⟩
    | dsOpRamwr => exact ⟨_, hkept (backlightKept_dsCmd _ hrefl), .inr rfl⟩
    | swMeasure | swTemperature | swHumidity => exact nomatch hs
    | cbNew | cbRead | cbAltitude => exact nomatch hc
    | _ => exact nomatch hi

/-- Only a failed transfer is answered `BusError`. -/
theorem busError_of_responses {i : Instr} (hs : isSws i = false) (hc : isCbs i = false) (h : exec i s = .next t)
    (hr : t.obs.responses = [4] :: s.obs.responses) : ∃ m, CountDropped s .busError m ∧ t = m.fail .dsp .busError := by
  obtain ⟨r, hpost, he⟩ := exec_countDropped hs hc s
  cases r with
  | ok m =>
    have hm : m.obs.responses = s.obs.responses := hpost
    rcases he with he | he <;> have ht := Host.Outcome.next.inj (h.symm.trans he)
    · rw [ht, Run.finish_ok, respond_responses, hm] at hr
      exact absurd (List.cons.inj hr).1 (by simp)
    · rw [ht, Run.statement_ok, hm] at hr
      exact absurd hr (by simp)
  | err e m =>
    obtain rfl : t = m.fail .dsp e := by
      rcases he with he | he <;> exact Host.Outcome.next.inj (h.symm.trans he)
    rw [fail_responses] at hr
    obtain rfl := Status.code_eq_four.mp (List.cons.inj (List.cons.inj hr).1).1
    exact ⟨m, hpost, rfl⟩

end

/-! ## A fill is not refused -/

/-- Without a refusal a display operation fails in `BusError` alone. -/
theorem busError_displayKeeps (s : State) : DisplayKeeps (fun t => t.obs.responses = s.obs.responses)
    fun e t => e = .busError ∧ t.obs.responses = s.obs.responses where
  window := by
    intro t x0 y0 x1 y1 h _
    rcases setWindow_cases x0 y0 x1 y1 t with ⟨m, hr, -, -, -, -, -, hobs⟩ | ⟨m, hr, -, -, -, -, hresp, -⟩ <;> rw [hr]
    · exact ⟨(congrArg Obs.responses hobs).trans h, rfl⟩
    · exact ⟨rfl, hresp.trans h⟩
  data := by
    intro t bytes h hs
    rcases dsData_cases bytes t with ⟨m, hr, ht⟩ | ⟨m, hr, ht⟩ <;> rw [hr]
    · exact ⟨(congrArg Obs.responses ht.obs).trans h, (congrArg Dsp.stream ht.dsp).trans hs⟩
    · exact ⟨rfl, (congrArg Obs.responses ht.obs).trans h⟩
  inner := fun h k => (congrArg Obs.responses k.obs).trans h

theorem exec_dsFillRect_not_refused {s t : State} {x y w h color : Half} (hr : s.dsp.ready = true)
    (he : exec (.dsFillRect x y w h color) s = .next t) : t.obs.responses ≠ [5] :: s.obs.responses := by
  have hpost : (dsFillRect x y w h color s).Post (fun t => t.obs.responses = s.obs.responses)
      fun e t => e = .busError ∧ t.obs.responses = s.obs.responses := by
    by_cases hv : rectVisible s.cfg x y w h
    · rw [dsFillRect_visible hr hv]
      exact (busError_displayKeeps s).fillClamped color rfl hv
    · rw [dsFillRect_empty hr hv]
      rfl
  obtain rfl : (dsFillRect x y w h color s).finish .dsp noPayload = t := Host.Outcome.next.inj he
  rcases hpost.finish_cases (u := .dsp) (p := noPayload) with ⟨m, hm, hf⟩ | ⟨e, m, ⟨rfl, hm⟩, hf⟩ <;> rw [hf]
  · rw [respond_responses, hm]
    simp
  · rw [fail_responses, hm]
    simp [Status.code]

end Sys2Proof.Machine
end

section
/-! The display on a sink that takes every transfer: each operation's transfers, and the state they leave. -/

namespace Sys2Proof.Machine

open Sys2Proof.Claims

/-! ## Answers -/

theorem spiTicks_cons (a : SpiAnswer) (l : List SpiAnswer) : spiTicks (a :: l) = a.ticks + spiTicks l := rfl

theorem spiTicks_append (l l' : List SpiAnswer) : spiTicks (l ++ l') = spiTicks l + spiTicks l' := by simp [spiTicks]

theorem allOk_cons {a : SpiAnswer} {l : List SpiAnswer} : allOk (a :: l) ↔ a.ok = true ∧ allOk l := List.forall_mem_cons

theorem allOk_append {l l' : List SpiAnswer} : allOk (l ++ l') ↔ allOk l ∧ allOk l' := List.forall_mem_append

/-- The answers to the first n of n + k transfers, and those to the others. -/
theorem exists_append_of_length {α : Type} {l : List α} {n k : Nat} (h : l.length = n + k) :
    ∃ l1 l2, l = l1 ++ l2 ∧ l1.length = n ∧ l2.length = k :=
  ⟨l.take n, l.drop n, (List.take_append_drop n l).symm, by simp [h], by simp [h]⟩

/-! ## Writes between the transfers

A register write neither reads nor writes what a good transfer changes, so it may be taken after the transfers that follow it. -/

section
variable (s : State) (k : Quad) (dc : Bool) (rest : List SpiAnswer) (l : List Event)

theorem delay_sent (n : Nat) :
    delay n (s.sent k dc rest l) = s.sent (k + BitVec.ofNat 64 n) dc rest (.delay n :: l) := by
  simp only [State.sent, delay, State.tickBy, State.log, BitVec.add_assoc, List.cons_append]

theorem dsAt_sent (q : DsSeq) : (s.dsAt q).sent k dc rest l = (s.sent k dc rest l).dsAt q := rfl

theorem openWindow_sent (x0 y0 x1 y1 : Half) :
    (openWindow x0 y0 x1 y1 s).sent k dc rest l = openWindow x0 y0 x1 y1 (s.sent k dc rest l) := rfl

theorem spend_sent (n : Nat) : (spend n s).sent k dc rest l = spend n (s.sent k dc rest l) := rfl

theorem loadChunk_sent (n : Nat) (color : Half) :
    (loadChunk n color s).sent k dc rest l = loadChunk n color (s.sent k dc rest l) := rfl

end

/-! ## The initialization table -/

section
variable {s : State} {answers rest : List SpiAnswer}

/-- One entry: its command, its data if it has any, its delay. -/
theorem sendEntry_sent {e : InitEntry} (h : s.env.spi = answers ++ rest) (hok : allOk answers)
    (hlen : answers.length = entryTransfers e) :
    sendEntry e s = .ok (s.sent (BitVec.ofNat 64 (spiTicks answers + e.delay)) (decide (e.data ≠ [])) rest
      (entryEvents e).reverse) := by
  unfold entryTransfers at hlen
  by_cases he : e.data = []
  · rw [if_pos he, List.length_eq_one_iff] at hlen
    obtain ⟨a, rfl⟩ := hlen
    obtain ⟨ha, -⟩ := allOk_cons.mp hok
    rw [sendEntry_given_bare h ha he, delay_sent]
    simp [entryEvents, he, spiTicks, BitVec.ofNat_add]
  · rw [if_neg he, List.length_eq_two] at hlen
    obtain ⟨a, b, rfl⟩ := hlen
    obtain ⟨ha, hb⟩ := allOk_cons.mp hok
    rw [sendEntry_given_data h ha (allOk_cons.mp hb).1 he, delay_sent]
    simp [entryEvents, he, spiTicks, BitVec.ofNat_add]

/-- The entries named, of which there is at least one, in order. -/
theorem initLoop_sent (k : Fin 16) (ks : List (Fin 16)) (h : s.env.spi = answers ++ rest) (hok : allOk answers)
    (hlen : answers.length = ((k :: ks).map fun j => entryTransfers s.cfg.dsInitSeq[j]).sum) :
    ∃ q, initLoop (k :: ks) s = .ok ((s.sent
      (BitVec.ofNat 64 (((k :: ks).map fun j => s.cfg.dsInitSeq[j].delay).sum + spiTicks answers))
      (decide (s.cfg.dsInitSeq[(k :: ks).getLast (List.cons_ne_nil _ _)].data ≠ [])) rest
      ((k :: ks).flatMap fun j => entryEvents s.cfg.dsInitSeq[j]).reverse).dsAt q) := by
  induction ks generalizing k s answers with
  | nil =>
    refine ⟨.init k, ?_⟩
    have hentry := sendEntry_sent (s := s.dsAt (.init k)) (e := s.cfg.dsInitSeq[k]) h hok (by simpa using hlen)
    change (sendEntry s.cfg.dsInitSeq[k] (s.dsAt (.init k))).andThen (initLoop []) = _
    rw [hentry, dsAt_sent, Nat.add_comm, List.flatMap_singleton]
    rfl
  | cons k' ks ih =>
    obtain ⟨l1, l2, rfl, hl1, hl2⟩ := exists_append_of_length hlen
    obtain ⟨hok1, hok2⟩ := allOk_append.mp hok
    rw [List.append_assoc] at h
    have hentry := sendEntry_sent (s := s.dsAt (.init k)) (e := s.cfg.dsInitSeq[k]) h hok1 hl1
    obtain ⟨q, hq⟩ := ih k' (s := (s.sent (BitVec.ofNat 64 (spiTicks l1 + s.cfg.dsInitSeq[k].delay))
      (decide (s.cfg.dsInitSeq[k].data ≠ [])) (l2 ++ rest) (entryEvents s.cfg.dsInitSeq[k]).reverse).dsAt (.init k))
      rfl hok2 hl2
    refine ⟨q, ?_⟩
    change (sendEntry s.cfg.dsInitSeq[k] (s.dsAt (.init k))).andThen (initLoop (k' :: ks)) = _
    rw [hentry, dsAt_sent, Run.ok_andThen, hq, dsAt_sent, sent_sent, ← BitVec.ofNat_add]
    have hticks (d D : Nat) : spiTicks l1 + d + (D + spiTicks l2) = d + D + spiTicks (l1 ++ l2) := by
      rw [spiTicks_append]
      omega
    rw [hticks, ← List.reverse_append]
    rfl

end

theorem finRange_map_getElem {α : Type} {n : Nat} (v : Vector α n) : (List.finRange n).map (fun k => v[k]) = v.toList := by
  apply List.ext_getElem <;> simp

/-- The instruction of an entry, as the list of the wire commands gives it. -/
theorem instr_of_initCommands {i : Instr} {k : Fin 16} (h : (i, k) ∈ initCommands) : i = initInstrs[k] := by
  have hall : ∀ p ∈ initCommands, p.1 = initInstrs[p.2.val] := by decide
  exact hall _ h

theorem dsReady_lit {s : State} (h : s.cfg.dsHasBl = true) : dsReady s = dsDone (setBl true (s.dsAt .bl)) := by
  rw [dsReady, backlightOn, if_pos h]

theorem dsReady_dark {s : State} (h : s.cfg.dsHasBl = false) : dsReady s = dsDone (s.dsAt .bl) := by
  rw [dsReady, backlightOn, h]
  rfl

theorem hardReset_eq (s : State) :
    hardReset s = { s with
      tick := s.tick + BitVec.ofNat 64 s.cfg.dsResetLow + BitVec.ofNat 64 s.cfg.dsResetWait
      dsp := { s.dsp with seq := .reset, rstN := true }
      obs := { s.obs with
        events := [.delay s.cfg.dsResetWait, .pin .rstN true, .delay s.cfg.dsResetLow, .pin .rstN false]
          ++ s.obs.events } } := rfl

/-- `DS_NEW`: the hard reset, the table, the backlight if present, ready. -/
theorem dsNew_sent {s : State} {answers rest : List SpiAnswer} (h : s.env.spi = answers ++ rest) (hok : allOk answers)
    (hlen : answers.length = (s.cfg.dsInitSeq.toList.map entryTransfers).sum) :
    ∃ q, dsNew s = .ok (dsReady (((hardReset (dsEntry s)).sent
      (BitVec.ofNat 64 ((s.cfg.dsInitSeq.toList.map InitEntry.delay).sum + spiTicks answers))
      (decide (s.cfg.dsInitSeq[15].data ≠ [])) rest (s.cfg.dsInitSeq.toList.flatMap entryEvents).reverse).dsAt q)) := by
  have hsplit : List.finRange 16 = 0 :: (List.finRange 16).tail := by decide
  rw [← finRange_map_getElem s.cfg.dsInitSeq, List.map_map, hsplit] at hlen
  obtain ⟨q, hq⟩ := initLoop_sent (s := hardReset (dsEntry s)) 0 (List.finRange 16).tail h hok hlen
  refine ⟨q, ?_⟩
  unfold dsNew
  rw [hsplit, hq, ← finRange_map_getElem s.cfg.dsInitSeq, List.map_map, List.flatMap_map, hsplit]
  rfl

/-! ## Windows and pixels -/

section
variable {s : State} {answers rest : List SpiAnswer}

/-- The window encoder: five transfers, then the registers. -/
theorem setWindow_sent (h : s.env.spi = answers ++ rest) (hok : allOk answers) (hlen : answers.length = 5)
    (x0 y0 x1 y1 : Half) :
    setWindow x0 y0 x1 y1 s = .ok (openWindow x0 y0 x1 y1 (s.sent (BitVec.ofNat 64 (spiTicks answers)) false rest
      (windowEvents s.cfg x0 y0 x1 y1).reverse)) := by
  obtain ⟨a, b, c, d, e, rfl⟩ : ∃ a b c d e, answers = [a, b, c, d, e] := by
    match answers, hlen with
    | [a, b, c, d, e], _ => exact ⟨a, b, c, d, e, rfl⟩
  simp only [allOk_cons] at hok
  obtain ⟨ha, hb, hc, hd, he, -⟩ := hok
  rw [setWindow_given h ha hb hc hd he]
  simp only [spiTicks, List.map_cons, List.map_nil, List.sum_cons, List.sum_nil, Nat.add_zero, BitVec.ofNat_add,
    BitVec.add_assoc]
  rfl

/-- A pixel on the panel: its window, its data, and the window is full. -/
theorem pixel_sent {px py : Nat} (hp : px < s.cfg.panelW ∧ py < s.cfg.panelH) (h : s.env.spi = answers ++ rest)
    (hok : allOk answers) (hlen : answers.length = 6) (color : Half) :
    pixel px py color s = .ok (windowFull
      (openWindow (BitVec.ofNat 16 px) (BitVec.ofNat 16 py) (BitVec.ofNat 16 px) (BitVec.ofNat 16 py)
        (s.sent (BitVec.ofNat 64 (spiTicks answers)) true rest (pixelEvents s.cfg px py color).reverse))) := by
  obtain ⟨l1, l2, rfl, hl1, hl2⟩ := exists_append_of_length (n := 5) (k := 1) hlen
  obtain ⟨a, rfl⟩ := List.length_eq_one_iff.mp hl2
  obtain ⟨hok1, hok2⟩ := allOk_append.mp hok
  rw [List.append_assoc] at h
  unfold pixel
  rw [if_pos (onPanel_iff.mpr hp)]
  dsimp only
  rw [setWindow_sent h hok1 hl1, Run.ok_andThen, dsData_sent rfl (allOk_cons.mp hok2).1, Run.ok_andThen, openWindow_sent,
    sent_sent, ← BitVec.ofNat_add, spiTicks_append]
  simp only [pixelEvents, List.reverse_append, spiTicks_cons]
  rfl

end

/-! ## The fill engine -/

/-- The pixels of a fill go out in a first chunk and the chunks of the rest. -/
theorem fillEvents_cons {n chunk : Nat} (hc : 1 ≤ chunk) (hn : n ≠ 0) (color : Half) :
    fillEvents n chunk color
      = .spiData (List.replicate (min n chunk) (colorBytes color)).flatten true
        :: fillEvents (n - min n chunk) chunk color := by
  unfold fillEvents
  rcases Nat.lt_or_ge n chunk with h | h
  · rw [Nat.min_eq_left h.le, Nat.sub_self, Nat.div_eq_of_lt h, Nat.mod_eq_of_lt h, if_neg hn]
    simp
  · rw [Nat.min_eq_right h, Nat.div_eq_sub_div hc h, Nat.mod_eq_sub_mod h, List.replicate_succ, List.cons_append]

theorem fillEvents_zero (chunk : Nat) (color : Half) : fillEvents 0 chunk color = [] := by simp [fillEvents]

theorem chunkCount_pos {n c m : Nat} (hc : 1 ≤ c) (h : chunkCount n c = m + 1) : n ≠ 0 := by
  rintro rfl
  exact nomatch (chunkCount_zero hc).symm.trans h

theorem fillEvents_length {n chunk : Nat} (hc : 1 ≤ chunk) (color : Half) :
    (fillEvents n chunk color).length = chunkCount n chunk := by
  generalize hm : chunkCount n chunk = m
  induction m generalizing n with
  | zero => rw [chunkCount_eq_zero hc hm, fillEvents_zero, List.length_nil]
  | succ m ih =>
    rw [fillEvents_cons hc (chunkCount_pos hc hm), List.length_cons, ih (chunkCount_sub hc hm)]

/-- The chunk buffer begins with K pixels of the colour (`42_display.md` R232). -/
def Loaded (K : Nat) (color : Half) (s : State) : Prop := ∃ tail, s.dsp.chunk = List.replicate K color ++ tail

theorem loaded_loadChunk (n : Nat) (color : Half) (s : State) : Loaded (min n s.cfg.dsChunk) color (loadChunk n color s) :=
  ⟨_, rfl⟩

theorem chunkBytes_of_loaded {K k : Nat} {color : Half} {s : State} (h : Loaded K color s) (hk : k ≤ K) :
    chunkBytes k s.dsp.chunk = (List.replicate k (colorBytes color)).flatten := by
  obtain ⟨tail, hchunk⟩ := h
  have htake : (List.replicate K color ++ tail).take k = List.replicate k color := by
    rw [List.take_append_of_le_length (by simpa using hk), List.take_replicate, Nat.min_eq_left hk]
  rw [chunkBytes, hchunk, htake, List.flatMap_replicate]
  rfl

theorem spend_spend {j k n : Nat} (h : j + k = n) (s : State) : spend k (spend j s) = spend n s := by
  subst h
  have hsub : s.dsp.remain - BitVec.ofNat 32 j - BitVec.ofNat 32 k = s.dsp.remain - BitVec.ofNat 32 (j + k) := by
    rw [BitVec.ofNat_add, sub_sub]
  simp only [spend, hsub]

section
variable {s : State} {answers rest : List SpiAnswer} {color : Half}

theorem streamChunk_sent {K n : Nat} {a : SpiAnswer} (hload : Loaded K color s) (hn : min n s.cfg.dsChunk ≤ K)
    (h : s.env.spi = a :: rest) (ha : a.ok = true) :
    streamChunk n s = .ok ((spend (min n s.cfg.dsChunk) (s.sent (BitVec.ofNat 64 a.ticks) true rest
      [.spiData (List.replicate (min n s.cfg.dsChunk) (colorBytes color)).flatten true])).dsAt (.stream n)) := by
  unfold streamChunk
  dsimp only
  rw [dsData_sent (s := s.dsAt (.stream n)) h ha, chunkBytes_of_loaded hload hn]
  rfl

/-- The last m + 1 transfers of a fill. -/
theorem streamChunks_sent (m : Nat) {K n : Nat} (hc : 1 ≤ s.cfg.dsChunk) (hm : chunkCount n s.cfg.dsChunk = m + 1)
    (hload : Loaded K color s) (hn : min n s.cfg.dsChunk ≤ K) (h : s.env.spi = answers ++ rest) (hok : allOk answers)
    (hlen : answers.length = m + 1) :
    ∃ q, streamChunks (m + 1) n s = .ok ((spend n (s.sent (BitVec.ofNat 64 (spiTicks answers)) true rest
      (fillEvents n s.cfg.dsChunk color).reverse)).dsAt q) := by
  induction m generalizing n s answers with
  | zero =>
    have hn0 := chunkCount_pos hc hm
    obtain ⟨a, rfl⟩ := List.length_eq_one_iff.mp hlen
    have hlast : n - min n s.cfg.dsChunk = 0 := chunkCount_eq_zero hc (chunkCount_sub hc hm)
    have hall : min n s.cfg.dsChunk = n := by omega
    refine ⟨.stream n, ?_⟩
    rw [streamChunks, streamChunk_sent hload hn h (allOk_cons.mp hok).1, fillEvents_cons hc hn0, hlast, hall,
      fillEvents_zero]
    rfl
  | succ m ih =>
    have hn0 := chunkCount_pos hc hm
    obtain ⟨a, answers, rfl⟩ := List.exists_cons_of_length_eq_add_one hlen
    obtain ⟨ha, hok⟩ := allOk_cons.mp hok
    obtain ⟨q, hq⟩ := ih (s := (spend (min n s.cfg.dsChunk) (s.sent (BitVec.ofNat 64 a.ticks) true (answers ++ rest)
      [.spiData (List.replicate (min n s.cfg.dsChunk) (colorBytes color)).flatten true])).dsAt (.stream n))
      (n := n - min n s.cfg.dsChunk) hc (chunkCount_sub hc hm) hload (le_trans (by simp) hn) rfl hok (Nat.succ.inj hlen)
    refine ⟨q, ?_⟩
    rw [List.cons_append] at h
    rw [streamChunks, streamChunk_sent hload hn h ha, Run.ok_andThen, hq, fillEvents_cons hc hn0, dsAt_sent, spend_sent,
      sent_sent, ← BitVec.ofNat_add, List.reverse_cons, spiTicks_cons]
    rw [← spend_spend (Nat.add_sub_of_le (Nat.min_le_left n s.cfg.dsChunk))]
    rfl

end

section
variable {c : Config} {x y w h : Half}

/-- The last column or row of a clamped side, as `42_display.md` R231 gives it. -/
theorem clampedLast_eq_clampedEnd {origin edge : Nat} (side : Half) (ho : origin < edge) :
    origin + clampSide origin side.toNat edge - 1 = clampedEnd origin side.toNat edge := by
  unfold clampSide clampedEnd
  omega

/-- The window of a clamped rectangle takes its pixels. -/
theorem windowCount_of_visible (hv : rectVisible c x y w h) (hc : c.Ok) :
    windowCount x y (BitVec.ofNat 16 (x.toNat + clampSide x.toNat w.toNat c.panelW - 1))
        (BitVec.ofNat 16 (y.toNat + clampSide y.toNat h.toNat c.panelH - 1))
      = clampSide x.toNat w.toNat c.panelW * clampSide y.toNat h.toNat c.panelH := by
  obtain ⟨hw, hh, hx, hy⟩ := hv
  have hwpos := clampSide_pos hw hx
  have hhpos := clampSide_pos hh hy
  rw [windowCount, toNat_clampedLast w hx hc.widthLe, toNat_clampedLast h hy hc.heightLe]
  congr 1 <;> omega

end

/-- A fill of a visible rectangle: the window, then its pixels in chunks. -/
theorem dsFillRect_sent {s : State} {x y w h color : Half} {answers rest : List SpiAnswer} (hc : s.cfg.Ok)
    (hr : s.dsp.ready = true) (hv : rectVisible s.cfg x y w h) (hspi : s.env.spi = answers ++ rest) (hok : allOk answers)
    (hlen : answers.length = 5 + (fillEvents (clampedArea s.cfg x y w h) s.cfg.dsChunk color).length) :
    ∃ q q', dsFillRect x y w h color s = .ok ((spend (clampedArea s.cfg x y w h)
      (loadChunk (clampedArea s.cfg x y w h) color
        (openWindow x y (BitVec.ofNat 16 (clampedEnd x.toNat w.toNat s.cfg.panelW))
            (BitVec.ofNat 16 (clampedEnd y.toNat h.toNat s.cfg.panelH))
          ((s.sent (BitVec.ofNat 64 (spiTicks answers)) true rest
            (windowEvents s.cfg x y (BitVec.ofNat 16 (clampedEnd x.toNat w.toNat s.cfg.panelW))
                (BitVec.ofNat 16 (clampedEnd y.toNat h.toNat s.cfg.panelH))
              ++ fillEvents (clampedArea s.cfg x y w h) s.cfg.dsChunk color).reverse).dsAt q')))).dsAt q) := by
  obtain ⟨hw, hh, hx, hy⟩ := id hv
  obtain ⟨l1, l2, rfl, hl1, hl2⟩ := exists_append_of_length hlen
  obtain ⟨hok1, hok2⟩ := allOk_append.mp hok
  rw [List.append_assoc] at hspi
  have hpos : clampedArea s.cfg x y w h ≠ 0 := by
    rw [← clampSide_mul_eq_clampedArea]
    exact Nat.mul_ne_zero (clampSide_pos hw hx).ne' (clampSide_pos hh hy).ne'
  obtain ⟨m, hm⟩ : ∃ m, chunkCount (clampedArea s.cfg x y w h) s.cfg.dsChunk = m + 1 :=
    Nat.exists_eq_succ_of_ne_zero fun h0 => hpos (chunkCount_eq_zero hc.chunkPos h0)
  rw [fillEvents_length hc.chunkPos, hm] at hl2
  rw [dsFillRect_visible hr hv, fillClamped, fillWindow, clampedLast_eq_clampedEnd w hx, clampedLast_eq_clampedEnd h hy,
    clampSide_mul_eq_clampedArea]
  generalize DsSeq.win x y _ _ color = q'
  rw [setWindow_sent (s := s.dsAt q') hspi hok1 hl1, Run.ok_andThen]
  obtain ⟨q, hq⟩ := streamChunks_sent (s := loadChunk (clampedArea s.cfg x y w h) color
    (openWindow x y (BitVec.ofNat 16 (clampedEnd x.toNat w.toNat s.cfg.panelW))
      (BitVec.ofNat 16 (clampedEnd y.toNat h.toNat s.cfg.panelH))
      ((s.dsAt q').sent (BitVec.ofNat 64 (spiTicks l1)) false (l2 ++ rest)
        (windowEvents s.cfg x y (BitVec.ofNat 16 (clampedEnd x.toNat w.toNat s.cfg.panelW))
          (BitVec.ofNat 16 (clampedEnd y.toNat h.toNat s.cfg.panelH))).reverse)))
    m hc.chunkPos hm (loaded_loadChunk _ color _) le_rfl rfl hok2 hl2
  refine ⟨q, q', ?_⟩
  rw [loadChunk_sent, openWindow_sent, sent_sent, ← BitVec.ofNat_add, ← spiTicks_append, dsAt_sent] at hq
  rw [List.reverse_append]
  simp only [openWindow_cfg, sent_cfg, dsAt_cfg, hm]
  exact hq

end Sys2Proof.Machine
end

section
/-! A text on a sink that takes every transfer (`42_display.md` R235 to R239): its pixel calls are made in order up to the first one
outside the panel. -/

namespace Sys2Proof.Machine

open Sys2Proof.Claims

/-! ## Pixel calls -/

/-- The call is inside the panel. -/
def visible (c : Config) (p : Call) : Bool := onPanel c p.1 p.2.1

theorem visible_iff {c : Config} {p : Call} : visible c p = true ↔ callInside c p := onPanel_iff

/-- The registers of the window after these calls are those of the last. -/
theorem windowAfter_of_ne_nil (d : Dsp) {calls : List Call} (h : calls ≠ []) :
    windowAfter d calls = (BitVec.ofNat 16 (calls.getLast h).1, BitVec.ofNat 16 (calls.getLast h).2.1,
      BitVec.ofNat 16 (calls.getLast h).1, BitVec.ofNat 16 (calls.getLast h).2.1) := by
  induction calls with
  | nil => exact absurd rfl h
  | cons p calls ih =>
    cases calls with
    | nil => rfl
    | cons q calls => exact ih (List.cons_ne_nil q calls)

theorem windowAfter_append (d d' : Dsp) (calls : List Call) {more : List Call} (h : more ≠ []) :
    windowAfter d (calls ++ more) = windowAfter d' more := by
  rw [windowAfter_of_ne_nil d (List.append_ne_nil_of_right_ne_nil calls h), windowAfter_of_ne_nil d' h,
    List.getLast_append_of_ne_nil _ h]

/-- `t` is `s` after making these calls, which took these answers and left `rest`: the text registers are said apart. -/
structure Drew (calls : List Call) (answers rest : List SpiAnswer) (s t : State) : Prop where
  cfg  : t.cfg = s.cfg
  busy : t.busy = s.busy
  sws  : t.sws = s.sws
  cbs  : t.cbs = s.cbs
  tick : t.tick = s.tick + BitVec.ofNat 64 (spiTicks answers)
  env  : t.env = { s.env with spi := rest }
  obs  : t.obs = { s.obs with
    events := (calls.flatMap fun p => pixelEvents s.cfg p.1 p.2.1 p.2.2).reverse ++ s.obs.events }
  dsp  : t.dsp = { s.dsp with
    x0 := (windowAfter s.dsp calls).1, y0 := (windowAfter s.dsp calls).2.1
    x1 := (windowAfter s.dsp calls).2.2.1, y1 := (windowAfter s.dsp calls).2.2.2
    stream := if calls = [] then s.dsp.stream else true, remain := if calls = [] then s.dsp.remain else 0
    dc := if calls = [] then s.dsp.dc else true, csN := if calls = [] then s.dsp.csN else csAfter s
    cx := t.dsp.cx, cy := t.dsp.cy, ox := t.dsp.ox, row := t.dsp.row, col := t.dsp.col }

/-- More calls after these. -/
theorem Drew.trans {calls more : List Call} {l l' rest : List SpiAnswer} {s t u : State} (h : Drew calls l (l' ++ rest) s t)
    (k : Drew more l' rest t u) : Drew (calls ++ more) (l ++ l') rest s u where
  cfg := k.cfg.trans h.cfg
  busy := k.busy.trans h.busy
  sws := k.sws.trans h.sws
  cbs := k.cbs.trans h.cbs
  tick := by rw [k.tick, h.tick, spiTicks_append, BitVec.ofNat_add, BitVec.add_assoc]
  env := by rw [k.env, h.env]
  obs := by simp [k.obs, h.obs, h.cfg]
  dsp := by
    rw [k.dsp]
    by_cases hmore : more = []
    · subst hmore
      rw [List.append_nil, h.dsp]
      rfl
    · have hcs : csAfter t = csAfter s := by
        rw [csAfter, h.cfg, h.dsp, csAfter]
        cases s.cfg.dsHasCs
        · simp
        · rfl
      rw [windowAfter_append s.dsp t.dsp calls hmore, hcs]
      simp only [hmore, if_false, List.append_eq_nil_iff, and_false]
      rw [h.dsp]

/-- `t` is `s` but for the text registers. -/
structure CursorWrite (s t : State) : Prop where
  cfg  : t.cfg = s.cfg
  busy : t.busy = s.busy
  sws  : t.sws = s.sws
  cbs  : t.cbs = s.cbs
  tick : t.tick = s.tick
  env  : t.env = s.env
  obs  : t.obs = s.obs
  dsp  : t.dsp = { s.dsp with
    cx := t.dsp.cx, cy := t.dsp.cy, ox := t.dsp.ox, row := t.dsp.row, col := t.dsp.col }

theorem CursorWrite.drew {s t : State} (h : CursorWrite s t) : Drew [] [] s.env.spi s t where
  cfg := h.cfg
  busy := h.busy
  sws := h.sws
  cbs := h.cbs
  tick := by rw [h.tick]; exact (BitVec.add_zero _).symm
  env := h.env
  obs := h.obs
  dsp := h.dsp

/-- From `s` the statements make these calls on a sink that takes every transfer, up to the first one outside the panel: it ends them
with `BoundsError`, and without one they complete with P. -/
def Run.Draws (calls : List Call) (P : State → Prop) (s : State) (r : Run) : Prop :=
  ∀ answers rest, allOk answers → s.env.spi = answers ++ rest →
    answers.length = 6 * (calls.takeWhile (visible s.cfg)).length →
    ∃ t, Drew (calls.takeWhile (visible s.cfg)) answers rest s t
      ∧ if calls.all (visible s.cfg) then r = .ok t ∧ P t else r = .err .boundsError t

section
variable {s : State} {P P' : State → Prop}

/-- A write of text registers makes no call. -/
theorem draws_write {t : State} (h : CursorWrite s t) (hP : P t) : (Run.ok t).Draws [] P s := by
  intro answers rest _ hspi hlen
  obtain rfl := List.length_eq_zero_iff.mp hlen
  rw [List.nil_append] at hspi
  exact ⟨t, hspi ▸ h.drew, rfl, hP⟩

theorem draws_andThen {calls more : List Call} {r : Run} {f : State → Run} (hr : r.Draws calls P s)
    (hf : ∀ t, t.cfg = s.cfg → P t → (f t).Draws more P' t) : (r.andThen f).Draws (calls ++ more) P' s := by
  intro answers rest hok hspi hlen
  by_cases hall : calls.all (visible s.cfg) = true
  · have htake : calls.takeWhile (visible s.cfg) = calls := List.takeWhile_eq_self_iff.mpr (List.all_eq_true.mp hall)
    rw [List.takeWhile_append_of_pos (List.all_eq_true.mp hall), List.length_append, Nat.mul_add] at hlen
    obtain ⟨l, l', rfl, hl, hl'⟩ := exists_append_of_length hlen
    obtain ⟨hok, hok'⟩ := allOk_append.mp hok
    rw [List.append_assoc] at hspi
    obtain ⟨m, hm, hrun⟩ := hr l (l' ++ rest) hok hspi (htake.symm ▸ hl)
    rw [if_pos hall] at hrun
    obtain ⟨rfl, hP⟩ := hrun
    obtain ⟨t, ht, hrun⟩ := hf m hm.cfg hP l' rest hok' (by rw [hm.env]) (by rw [hm.cfg]; exact hl')
    rw [hm.cfg] at ht hrun
    refine ⟨t, ?_, ?_⟩
    · rw [List.takeWhile_append_of_pos (List.all_eq_true.mp hall)]
      exact (htake ▸ hm).trans ht
    · rw [List.all_append, hall, Bool.true_and]
      exact hrun
  · have htake : (calls ++ more).takeWhile (visible s.cfg) = calls.takeWhile (visible s.cfg) := by
      rw [List.takeWhile_append, if_neg]
      intro hfull
      exact hall (List.all_eq_true.mpr (List.takeWhile_eq_self_iff.mp
        ((List.takeWhile_prefix _).eq_of_length hfull)))
    rw [htake] at hlen ⊢
    obtain ⟨t, ht, hrun⟩ := hr answers rest hok hspi hlen
    rw [if_neg hall] at hrun
    rw [Bool.not_eq_true] at hall
    rw [List.all_append, hall, Bool.false_and]
    exact ⟨t, ht, by rw [hrun]; rfl⟩

end

/-! ## The cursor -/

/-- The text began in column `ox`, and its next cell is at (cx, cy). -/
structure CursorAt (ox : Half) (cx cy : Nat) (s : State) : Prop where
  ox : s.dsp.ox = ox
  cx : s.dsp.cx.toNat = cx
  cy : s.dsp.cy.toNat = cy

section
variable {s : State} {ox : Half} {cx cy : Nat}

theorem draws_pixel (px py : Nat) (color : Half) (h : CursorAt ox cx cy s) :
    (pixel px py color s).Draws [(px, py, color)] (CursorAt ox cx cy) s := by
  intro answers rest hok hspi hlen
  cases hp : visible s.cfg (px, py, color) with
  | true =>
    rw [List.takeWhile_cons_of_pos hp, List.takeWhile_nil] at hlen ⊢
    rw [List.all_cons, hp]
    refine ⟨_, ?_, pixel_sent (visible_iff.mp hp) hspi hok hlen color, ⟨h.ox, h.cx, h.cy⟩⟩
    refine ⟨rfl, rfl, rfl, rfl, rfl, rfl, ?_, rfl⟩
    rw [List.flatMap_singleton]
    rfl
  | false =>
    rw [List.takeWhile_cons_of_neg (by rw [hp]; nofun)] at hlen ⊢
    rw [List.all_cons, hp]
    obtain rfl := List.length_eq_zero_iff.mp hlen
    have hout : ¬ callInside s.cfg (px, py, color) := fun hin => nomatch hp.symm.trans (visible_iff.mpr hin)
    rw [List.nil_append] at hspi
    exact ⟨s, hspi ▸ CursorWrite.drew ⟨rfl, rfl, rfl, rfl, rfl, rfl, rfl, rfl⟩, pixel_outside hout color⟩

/-- The pixel call of a position (row, col) of glyph g with its cell at (cx, cy), if it makes one. -/
def positionCalls (c : Config) (g cx cy : Nat) (color : Half) (hasBg : Bool) (bg : Half) (p : Nat × Nat) : List Call :=
  if fontBit c g p.1 p.2 then [(cx + p.2, cy + p.1, color)]
  else if hasBg then [(cx + p.2, cy + p.1, bg)]
  else []

/-- A glyph's calls are those of its positions in scan order. -/
theorem glyphCalls_eq (c : Config) (g cx cy : Nat) (color : Half) (hasBg : Bool) (bg : Half) :
    glyphCalls c g cx cy color hasBg bg = scanOrder.flatMap (positionCalls c g cx cy color hasBg bg) := by
  simp only [glyphCalls, scanOrder, List.flatMap_assoc, List.flatMap_map, positionCalls]

section
variable (g : Nat) (color : Half) (hasBg : Bool) (bg : Half)

theorem draws_glyphPixel (p : Nat × Nat) (h : CursorAt ox cx cy s) :
    (glyphPixel g color hasBg bg p.1 p.2 s).Draws (positionCalls s.cfg g cx cy color hasBg bg p) (CursorAt ox cx cy) s := by
  have hscan : (Run.ok (scanAt p.1 p.2 s)).Draws [] (CursorAt ox cx cy) s :=
    draws_write ⟨rfl, rfl, rfl, rfl, rfl, rfl, rfl, rfl⟩ ⟨h.ox, h.cx, h.cy⟩
  refine draws_andThen (more := positionCalls s.cfg g cx cy color hasBg bg p)
    (f := fun t => if fontBit t.cfg g p.1 p.2 then pixel (t.dsp.cx.toNat + p.2) (t.dsp.cy.toNat + p.1) color t
      else if hasBg then pixel (t.dsp.cx.toNat + p.2) (t.dsp.cy.toNat + p.1) bg t else .ok t) hscan fun t hcfg ht => ?_
  rw [hcfg, ht.cx, ht.cy]
  unfold positionCalls
  split
  · exact draws_pixel _ _ _ ht
  · split
    · exact draws_pixel _ _ _ ht
    · exact draws_write ⟨rfl, rfl, rfl, rfl, rfl, rfl, rfl, rfl⟩ ht

theorem draws_drawGlyph (ps : List (Nat × Nat)) (h : CursorAt ox cx cy s) :
    (drawGlyph g color hasBg bg ps s).Draws (ps.flatMap (positionCalls s.cfg g cx cy color hasBg bg)) (CursorAt ox cx cy)
      s := by
  induction ps generalizing s with
  | nil => exact draws_write ⟨rfl, rfl, rfl, rfl, rfl, rfl, rfl, rfl⟩ h
  | cons p ps ih =>
    rw [List.flatMap_cons]
    exact draws_andThen (draws_glyphPixel g color hasBg bg p h) fun t hcfg ht => hcfg ▸ ih ht

end

theorem advanceCursor_write (s : State) : CursorWrite s (advanceCursor s) := by
  unfold advanceCursor
  dsimp only
  split <;> exact ⟨rfl, rfl, rfl, rfl, rfl, rfl, rfl, rfl⟩

/-- The cursor goes to the next cell (`42_display.md` R237), as long as it fits its registers. -/
theorem cursorAt_advanceCursor (h : CursorAt ox cx cy s) (hx : cx + 8 < 2 ^ 17) (hy : cy + 8 < 2 ^ 17) :
    CursorAt ox (nextCell s.cfg ox.toNat cx cy).1 (nextCell s.cfg ox.toNat cx cy).2 (advanceCursor s) := by
  have hcx : (s.dsp.cx + 8).toNat = cx + 8 := by
    rw [BitVec.toNat_add, h.cx]
    exact Nat.mod_eq_of_lt hx
  have hcy : (s.dsp.cy + 8).toNat = cy + 8 := by
    rw [BitVec.toNat_add, h.cy]
    exact Nat.mod_eq_of_lt hy
  unfold advanceCursor nextCell
  dsimp only
  rw [hcx]
  split
  · refine ⟨h.ox, ?_, hcy⟩
    rw [h.ox, BitVec.toNat_setWidth]
    exact Nat.mod_eq_of_lt (by have := ox.isLt; omega)
  · exact ⟨h.ox, hcx, h.cy⟩

/-- A cell that is not the first of its line begins in a column of the panel. -/
theorem nextCell_fst_le {c : Config} (hc : c.Ok) (ox : Half) (cx cy : Nat) : (nextCell c ox.toNat cx cy).1 ≤ 65535 := by
  have hwidth := hc.widthLe
  have hox := ox.isLt
  unfold nextCell
  split <;> dsimp only <;> omega

theorem nextCell_snd_le (c : Config) (ox cx cy : Nat) : (nextCell c ox cx cy).2 ≤ cy + 8 := by
  unfold nextCell
  split <;> simp

theorem printable_iff {ch : Byte} : printable ch = true ↔ 32 ≤ ch.toNat ∧ ch.toNat ≤ 126 := decide_eq_true_iff

/-- The text makes its calls, as long as the cursor fits its registers. -/
theorem draws_drawChars (color : Half) (hasBg : Bool) (bg : Half) (text : List Byte) (hc : s.cfg.Ok)
    (h : CursorAt ox cx cy s) (hx : cx ≤ 65535) (hy : cy + 8 * text.length < 2 ^ 17) :
    (drawChars color hasBg bg text s).Draws (textCalls s.cfg ox.toNat color hasBg bg cx cy text)
      (CursorAt ox (textCursor s.cfg ox.toNat cx cy text).1 (textCursor s.cfg ox.toNat cx cy text).2) s := by
  induction text generalizing s cx cy with
  | nil => exact draws_write ⟨rfl, rfl, rfl, rfl, rfl, rfl, rfl, rfl⟩ h
  | cons ch rest ih =>
    rw [List.length_cons] at hy
    unfold drawChars drawChar textCalls textCursor
    by_cases hch : 32 ≤ ch.toNat ∧ ch.toNat ≤ 126
    · rw [if_pos (printable_iff.mpr hch), if_pos hch, if_pos hch, glyphCalls_eq]
      have hcell := nextCell_snd_le s.cfg ox.toNat cx cy
      have hglyph := draws_drawGlyph (glyphIndex ch) color hasBg bg scanOrder h
      have hchar : ((drawGlyph (glyphIndex ch) color hasBg bg scanOrder s).andThen fun t => .ok (advanceCursor t)).Draws
          (scanOrder.flatMap (positionCalls s.cfg (glyphIndex ch) cx cy color hasBg bg) ++ [])
          (CursorAt ox (nextCell s.cfg ox.toNat cx cy).1 (nextCell s.cfg ox.toNat cx cy).2) s :=
        draws_andThen hglyph fun t ht hcur =>
          draws_write (advanceCursor_write t) (ht ▸ cursorAt_advanceCursor hcur (by omega) (by omega))
      rw [List.append_nil] at hchar
      refine draws_andThen hchar fun t ht hcur => ?_
      have hnext := nextCell_fst_le hc ox cx cy
      rw [← ht] at hc hnext hcell hcur ⊢
      exact ih hc hcur hnext (by omega)
    · rw [if_neg (mt printable_iff.mp hch), if_neg hch, if_neg hch, Run.ok_andThen]
      exact ih hc h hx (by omega)

end

/-- `DS_DRAW_TEXT` makes the calls of its text (`42_display.md` R235). -/
theorem draws_dsDrawText {s : State} (x y color : Half) (hasBg : Bool) (bg : Half) {text : List Byte} (hc : s.cfg.Ok)
    (hr : s.dsp.ready = true) (hlen : text.length ≤ 255) :
    (dsDrawText x y color hasBg bg text s).Draws (textCalls s.cfg x.toNat color hasBg bg x.toNat y.toNat text)
      (CursorAt x (textCursor s.cfg x.toNat x.toNat y.toNat text).1 (textCursor s.cfg x.toNat x.toNat y.toNat text).2) s := by
  have hx := x.isLt
  have hy := y.isLt
  have hhome : CursorAt x x.toNat y.toNat (homeCursor x y s) :=
    ⟨rfl, by rw [homeCursor_dsp, BitVec.toNat_setWidth]; exact Nat.mod_eq_of_lt (by omega),
      by rw [homeCursor_dsp, BitVec.toNat_setWidth]; exact Nat.mod_eq_of_lt (by omega)⟩
  rw [dsDrawText, needDisplay_ready hr, Run.ok_andThen]
  refine draws_andThen (calls := []) (r := .ok (homeCursor x y s))
    (draws_write ⟨rfl, rfl, rfl, rfl, rfl, rfl, rfl, rfl⟩ hhome) fun t ht hcur => ?_
  rw [← ht] at hc ⊢
  exact draws_drawChars color hasBg bg text hc hcur (by omega) (by omega)

end Sys2Proof.Machine
end

section
/-! What a well-behaved controller shows (`20_memory.md` R68): what each transfer does to it, and where the pixels of a window land. -/

namespace Sys2Proof.Machine

open Sys2Proof.Claims

/-! ## A window of the controller -/

/-- Position n of a window w pixels wide, row by row (`42_display.md` R225). -/
def windowPosition (x0 y0 w n : Nat) : Nat × Nat := (x0 + n % w, y0 + n / w)

theorem windowPosition_inj {x0 y0 w n n' : Nat} (h : windowPosition x0 y0 w n = windowPosition x0 y0 w n') : n = n' := by
  obtain ⟨hcol, hrow⟩ := Prod.mk.inj h
  rw [← Nat.mod_add_div n w, ← Nat.mod_add_div n' w, Nat.add_left_cancel hcol, Nat.add_left_cancel hrow]

/-- The controller streams into the window of w by h pixels at (x0, y0), n of them written. -/
structure Controller.AtPixel (x0 y0 w h n : Nat) (k : Controller) : Prop where
  streaming : k.streaming = true
  colStart  : k.colStart.toNat = x0
  colEnd    : k.colEnd.toNat + 1 = x0 + w
  rowEnd    : k.rowEnd.toNat + 1 = y0 + h
  pointer   : (k.px, k.py) = windowPosition x0 y0 w n

section
variable {x0 y0 w h n : Nat} {k : Controller}

/-- The next position of a window: one column right, or the first column of the next row. -/
theorem succ_mod_div {n w : Nat} (hw : 0 < w) :
    (n % w + 1 < w ∧ (n + 1) % w = n % w + 1 ∧ (n + 1) / w = n / w)
      ∨ (n % w + 1 = w ∧ (n + 1) % w = 0 ∧ (n + 1) / w = n / w + 1) := by
  have hlt := Nat.mod_lt n hw
  have hsplit := Nat.mod_add_div n w
  rcases Nat.lt_or_ge (n % w + 1) w with h | h
  · refine .inl ⟨h, ?_, ?_⟩
    · rw [Nat.add_mod, Nat.mod_eq_of_lt (by omega : 1 < w), Nat.mod_eq_of_lt h]
    · rw [show n + 1 = (n % w + 1) + w * (n / w) by omega, Nat.add_mul_div_left _ _ hw, Nat.div_eq_of_lt h, Nat.zero_add]
  · have hw1 : n % w + 1 = w := by omega
    have hnext : n + 1 = w * (n / w + 1) := by rw [Nat.mul_add, Nat.mul_one]; omega
    exact .inr ⟨hw1, by rw [hnext, Nat.mul_mod_right], by rw [hnext, Nat.mul_div_cancel_left _ hw]⟩

/-- A pixel of an unfilled window lands at its position, and the pointer goes on to the next. -/
theorem Controller.AtPixel.pixel (hk : k.AtPixel x0 y0 w h n) (hn : n < w * h) (color : Half) :
    (k.pixel color).AtPixel x0 y0 w h (n + 1)
      ∧ (k.pixel color).writes = (windowPosition x0 y0 w n, color) :: k.writes := by
  have hw : 0 < w := Nat.pos_of_ne_zero fun h0 => by simp [h0] at hn
  obtain ⟨hpx, hpy⟩ := Prod.mk.inj hk.pointer
  have hrow : n / w < h := Nat.div_lt_of_lt_mul hn
  have hend := hk.rowEnd
  have hcol := hk.colEnd
  have hin : ¬ k.rowEnd.toNat < k.py := by omega
  unfold Controller.pixel
  rw [if_neg hin]
  refine ⟨⟨hk.streaming, hk.colStart, hk.colEnd, hk.rowEnd, ?_⟩, by rw [hk.pointer]⟩
  dsimp only [windowPosition]
  rcases succ_mod_div (n := n) hw with ⟨hlt, hmod, hdiv⟩ | ⟨hlast, hmod, hdiv⟩
  · have hinside : k.px < k.colEnd.toNat := by omega
    rw [if_pos hinside, if_pos hinside, hmod, hdiv, hpx, hpy, Nat.add_assoc]
  · have hedge : ¬ k.px < k.colEnd.toNat := by omega
    rw [if_neg hedge, if_neg hedge, hmod, hdiv, hk.colStart, hpy, Nat.add_assoc]
    rfl

end

/-- Data in streaming mode is its pixels, two bytes each. -/
theorem Controller.pixels_flatMap (k : Controller) (colors : List Half) :
    k.pixels (colors.flatMap colorBytes) = colors.foldl Controller.pixel k := by
  induction colors generalizing k with
  | nil => rfl
  | cons color colors ih =>
    change (k.pixel (be16 (color.extractLsb' 8 8) (color.extractLsb' 0 8))).pixels (colors.flatMap colorBytes) = _
    rw [be16_bytes16, ih]
    rfl

theorem Controller.shows_cons {k k' : Controller} {p : Nat × Nat} {color : Half} (h : k'.writes = (p, color) :: k.writes)
    (x y : Nat) : k'.shows x y = if (x, y) = p then some color else k.shows x y := by
  unfold Controller.shows
  rw [h, List.find?_cons]
  by_cases hp : (x, y) = p
  · rw [if_pos hp, ← hp, beq_self_eq_true]
    rfl
  · rw [if_neg hp, beq_eq_false_iff_ne.mpr (Ne.symm hp)]

section
variable {x0 y0 w h : Nat}

/-- The pixels of an unfilled window land at the next positions, in order, and nowhere else. -/
theorem Controller.AtPixel.fold (colors : List Half) {n : Nat} {k : Controller} (hk : k.AtPixel x0 y0 w h n)
    (hlen : n + colors.length ≤ w * h) :
    (colors.foldl Controller.pixel k).AtPixel x0 y0 w h (n + colors.length)
      ∧ (∀ i (hi : i < colors.length), (colors.foldl Controller.pixel k).shows (x0 + (n + i) % w) (y0 + (n + i) / w)
          = some colors[i])
      ∧ ∀ px py, (∀ i, i < colors.length → (px, py) ≠ windowPosition x0 y0 w (n + i)) →
          (colors.foldl Controller.pixel k).shows px py = k.shows px py := by
  induction colors generalizing n k with
  | nil => exact ⟨hk, nofun, fun _ _ _ => rfl⟩
  | cons color colors ih =>
    rw [List.length_cons] at hlen
    obtain ⟨hnext, hwrites⟩ := hk.pixel (by omega) color
    obtain ⟨hat, hin, hout⟩ := ih hnext (by omega)
    rw [List.foldl_cons]
    refine ⟨?_, fun i hi => ?_, fun px py hne => ?_⟩
    · rw [List.length_cons, ← Nat.add_assoc, Nat.add_right_comm]
      exact hat
    · cases i with
      | zero =>
        have hlater : ∀ i, i < colors.length → windowPosition x0 y0 w n ≠ windowPosition x0 y0 w (n + 1 + i) :=
          fun i _ he => absurd (windowPosition_inj he) (by omega)
        refine (hout _ _ hlater).trans ?_
        rw [Controller.shows_cons hwrites]
        exact if_pos rfl
      | succ i =>
        rw [← Nat.add_assoc, Nat.add_right_comm]
        exact hin i (by simpa using hi)
    · rw [hout px py fun i hi => ?_, Controller.shows_cons hwrites, if_neg]
      · simpa using hne 0 (by simp)
      · rw [Nat.add_assoc, Nat.add_comm 1]
        exact hne (i + 1) (by simpa using hi)

end

/-! ## Transfers -/

/-- The controller after the history of `s`. -/
def controller (s : State) : Controller := Controller.after s.cfg s.obs.events

theorem shown_eq (s : State) (x y : Nat) : shown s x y = (controller s).shows x y := rfl

/-- The display shows what was last written. -/
theorem shown_congr {s t : State} (h : (controller t).writes = (controller s).writes) (x y : Nat) :
    shown t x y = shown s x y := by
  rw [shown_eq, Controller.shows, h]
  rfl

/-- `t` has the configuration, the cursor and the chunk buffer of `s`, and its controller is `k`. -/
structure Received (k : Controller) (s t : State) : Prop where
  cfg        : t.cfg = s.cfg
  cx         : t.dsp.cx = s.dsp.cx
  cy         : t.dsp.cy = s.dsp.cy
  chunk      : t.dsp.chunk = s.dsp.chunk
  controller : controller t = k

theorem Received.trans {k k' : Controller} {s t u : State} (h : Received k s t) (h' : Received k' t u) : Received k' s u :=
  ⟨h'.cfg.trans h.cfg, h'.cx.trans h.cx, h'.cy.trans h.cy, h'.chunk.trans h.chunk, h'.controller⟩

/-- No pixel has been written. -/
def NothingWritten (s : State) (_ : Status) (t : State) : Prop := (controller t).writes = (controller s).writes

/-- Statements that only set the controller up, then more of them. -/
theorem received_andThen {r : Run} {f : State → Run} {k k' : Controller} {s : State}
    (hr : r.Post (Received k s) (NothingWritten s)) (hk : k.writes = (controller s).writes)
    (hf : ∀ m, Received k s m → (f m).Post (Received k' m) (NothingWritten m)) :
    (r.andThen f).Post (Received k' s) (NothingWritten s) :=
  Run.post_andThen hr fun m hm => (hf m hm).mono (fun _ ht => hm.trans ht)
    fun _ _ ht => (Eq.trans ht (congrArg Controller.writes hm.controller)).trans hk

/-- A transfer is received where it completes, and only there. -/
theorem received_transfer {r : Run} {e f : Event} {dc : Bool} {s : State}
    (hf : (controller s).event s.cfg f = controller s)
    (hr : (∃ t, r = .ok t ∧ Transferred e dc s t) ∨ ∃ t, r = .err .busError (dropStream t) ∧ Transferred f dc s t) :
    r.Post (Received ((controller s).event s.cfg e) s) (NothingWritten s) := by
  have hcontroller {e : Event} {t : State} (ht : Transferred e dc s t) : controller t = (controller s).event s.cfg e := by
    rw [controller, ht.cfg, ht.obs]
    rfl
  rcases hr with ⟨t, rfl, ht⟩ | ⟨t, rfl, ht⟩
  · exact ⟨ht.cfg, by rw [ht.dsp], by rw [ht.dsp], by rw [ht.dsp], hcontroller ht⟩
  · exact congrArg Controller.writes ((hcontroller ht).trans hf)

theorem dsCmd_controller (b : Byte) (s : State) :
    (dsCmd b s).Post (Received ((controller s).command s.cfg b) s) (NothingWritten s) :=
  received_transfer rfl (dsCmd_cases b s)

theorem dsData_controller (bytes : List Byte) (s : State) :
    (dsData bytes s).Post (Received ((controller s).data s.cfg bytes) s) (NothingWritten s) :=
  received_transfer rfl (dsData_cases bytes s)

/-- A command other than memory-write ends the streaming mode. -/
theorem Controller.command_of_ne {c : Config} {b : Byte} (h : b ≠ c.dsOpRamwr) (k : Controller) :
    k.command c b = { k with last := b, streaming := false } := if_neg h

/-- The bounds of the columns are taken. -/
theorem Controller.data_caset {c : Config} {k : Controller} (hs : k.streaming = false) (hl : k.last = c.dsOpCaset)
    (lo hi : Half) : k.data c (boundBytes lo hi) = { k with colStart := lo, colEnd := hi } := by
  unfold Controller.data
  rw [hs]
  change (if k.last = c.dsOpCaset then _ else _) = _
  rw [if_pos hl, be16_bytes16, be16_bytes16]

/-- The bounds of the rows are taken. -/
theorem Controller.data_raset {c : Config} {k : Controller} (hd : c.AddressOpsDistinct) (hs : k.streaming = false)
    (hl : k.last = c.dsOpRaset) (lo hi : Half) : k.data c (boundBytes lo hi) = { k with rowStart := lo, rowEnd := hi } := by
  have hne : k.last ≠ c.dsOpCaset := fun h => hd.casetRaset (h.symm.trans hl)
  unfold Controller.data
  rw [hs]
  change (if k.last = c.dsOpCaset then _ else if k.last = c.dsOpRaset then _ else _) = _
  rw [if_neg hne, if_pos hl, be16_bytes16, be16_bytes16]

/-- Data in streaming mode. -/
theorem Controller.data_streaming {c : Config} {k : Controller} (hs : k.streaming = true) (colors : List Half) :
    k.data c (colors.flatMap colorBytes) = colors.foldl Controller.pixel k := by
  unfold Controller.data
  rw [if_pos hs, Controller.pixels_flatMap]

/-- The controller once a window is set: at the window's first pixel. -/
def Controller.opened (c : Config) (x0 y0 x1 y1 : Half) (k : Controller) : Controller :=
  { k with
    last := c.dsOpRamwr, streaming := true, px := x0.toNat, py := y0.toNat
    colStart := x0, colEnd := x1, rowStart := y0, rowEnd := y1 }

theorem Controller.atPixel_opened (c : Config) {x0 y0 x1 y1 : Half} (k : Controller) (hx : x0.toNat ≤ x1.toNat)
    (hy : y0.toNat ≤ y1.toNat) :
    (k.opened c x0 y0 x1 y1).AtPixel x0.toNat y0.toNat (x1.toNat - x0.toNat + 1) (y1.toNat - y0.toNat + 1) 0 where
  streaming := rfl
  colStart := rfl
  colEnd := by change x1.toNat + 1 = _; omega
  rowEnd := by change y1.toNat + 1 = _; omega
  pointer := by rw [windowPosition, Nat.zero_mod, Nat.zero_div]; rfl

section
variable {s : State}

theorem sendCaset_controller (hd : s.cfg.AddressOpsDistinct) (lo hi : Half) :
    (sendCaset lo hi s).Post
      (Received { controller s with last := s.cfg.dsOpCaset, streaming := false, colStart := lo, colEnd := hi } s)
      (NothingWritten s) := by
  have hcmd := dsCmd_controller s.cfg.dsOpCaset s
  rw [Controller.command_of_ne hd.casetRamwr] at hcmd
  refine received_andThen hcmd rfl fun m hm => ?_
  have hdata := dsData_controller (boundBytes lo hi) m
  rwa [hm.cfg, hm.controller, Controller.data_caset rfl rfl] at hdata

theorem sendRaset_controller (hd : s.cfg.AddressOpsDistinct) (lo hi : Half) :
    (sendRaset lo hi s).Post
      (Received { controller s with last := s.cfg.dsOpRaset, streaming := false, rowStart := lo, rowEnd := hi } s)
      (NothingWritten s) := by
  have hcmd := dsCmd_controller s.cfg.dsOpRaset s
  rw [Controller.command_of_ne hd.rasetRamwr] at hcmd
  refine received_andThen hcmd rfl fun m hm => ?_
  have hdata := dsData_controller (boundBytes lo hi) m
  rwa [hm.cfg, hm.controller, Controller.data_raset hd rfl rfl] at hdata

theorem sendRamwr_controller (s : State) :
    (sendRamwr s).Post
      (Received { controller s with
        last := s.cfg.dsOpRamwr, streaming := true
        px := (controller s).colStart.toNat, py := (controller s).rowStart.toNat } s)
      (NothingWritten s) := by
  have hcmd := dsCmd_controller s.cfg.dsOpRamwr s
  rwa [Controller.command, if_pos rfl] at hcmd

/-- The window encoder sets the controller to the first pixel of the window; no pixel is written yet. -/
theorem setWindow_controller (hd : s.cfg.AddressOpsDistinct) (x0 y0 x1 y1 : Half) :
    (setWindow x0 y0 x1 y1 s).Post (Received ((controller s).opened s.cfg x0 y0 x1 y1) s) (NothingWritten s) := by
  have hcols := sendCaset_controller hd x0 x1
  have hrows := received_andThen (f := sendRaset y0 y1) hcols rfl fun m hm => by
    have h := sendRaset_controller (s := m) (hm.cfg ▸ hd) y0 y1
    rwa [hm.cfg, hm.controller] at h
  have hmem := received_andThen (f := sendRamwr) hrows rfl fun m hm => by
    have h := sendRamwr_controller m
    rwa [hm.cfg, hm.controller] at h
  exact Run.post_andThen hmem fun m hm => ⟨hm.cfg, hm.cx, hm.cy, hm.chunk, hm.controller⟩

end

/-! ## Pixels -/

/-- A pixel on the panel is written where it completes, and nothing is where it fails. -/
theorem pixel_controller {s : State} (hc : s.cfg.Ok) (hd : s.cfg.AddressOpsDistinct) (px py : Nat) (color : Half) :
    (pixel px py color s).Post
      (fun t => ∃ k, Received k s t ∧ k.writes = ((px, py), color) :: (controller s).writes)
      (NothingWritten s) := by
  unfold pixel
  dsimp only
  split
  next hp =>
    obtain ⟨hx, hy⟩ := onPanel_iff.mp hp
    have hat := Controller.atPixel_opened s.cfg (controller s) (le_refl (BitVec.ofNat 16 px).toNat)
      (le_refl (BitVec.ofNat 16 py).toNat)
    rw [toNat_ofNat_of_lt_edge hx hc.widthLe, toNat_ofNat_of_lt_edge hy hc.heightLe, Nat.sub_self, Nat.sub_self] at hat
    obtain ⟨-, hwrites⟩ := hat.pixel (by simp) color
    have hdata := received_andThen (f := dsData (pixelBytes color))
      (setWindow_controller hd (BitVec.ofNat 16 px) (BitVec.ofNat 16 py) (BitVec.ofNat 16 px) (BitVec.ofNat 16 py)) rfl
      fun m hm => by
        have h := dsData_controller ([color].flatMap colorBytes) m
        rwa [hm.cfg, hm.controller, Controller.data_streaming rfl] at h
    refine Run.post_andThen hdata fun m hm => ⟨_, ⟨hm.cfg, hm.cx, hm.cy, hm.chunk, hm.controller⟩, ?_⟩
    rw [List.foldl_cons, List.foldl_nil, hwrites]
    simp [windowPosition, Controller.opened]
  next => exact rfl

end Sys2Proof.Machine
end

section
/-! What the display shows after a fill, after pushes and after a character (`20_memory.md` R68; `42_display.md` R225, R230, R235). -/

namespace Sys2Proof.Machine

open Sys2Proof.Claims

/-! ## Success -/

theorem DisplayError.ne_ok {may : Bool} {s t : State} {e : Status} (h : DisplayError may s e t) : e ≠ .ok := by
  cases h with
  | bus => nofun
  | refused _ hok => exact hok

/-- An operation answered `OK` completed. -/
theorem ok_of_streamed {opened may : Bool} {s t : State} {r : Run} (hr : r.Post (Streamed opened s) (DisplayError may s))
    (ht : r.finish .dsp noPayload = t) (h0 : t.obs.responses = [0] :: s.obs.responses) :
    ∃ m, r = .ok m ∧ t = m.respond .dsp [] := by
  cases r with
  | ok m => exact ⟨m, rfl, ht.symm⟩
  | err e m =>
    have herr : DisplayError may s e m := hr
    exact absurd ⟨[], ht ▸ h0⟩ (not_succeeded_fail .dsp herr.ne_ok)

/-- A display operation answers once. -/
theorem response_of_streamed {opened may : Bool} {s t : State} {r : Run}
    (hr : r.Post (Streamed opened s) (DisplayError may s)) (ht : r.finish .dsp noPayload = t) :
    ∃ answer, t.obs.responses = answer :: s.obs.responses := by
  subst ht
  rcases hr.finish_cases (u := .dsp) (p := noPayload) with ⟨m, hm, h⟩ | ⟨e, m, hm, h⟩ <;> rw [h]
  · exact ⟨_, by rw [respond_responses, hm.responses]⟩
  · refine ⟨_, (fail_responses .dsp e m).trans (congrArg _ ?_)⟩
    cases hm with
    | bus _ responses _ => exact responses
    | refused _ _ _ _ k => exact k.responses

/-! ## A fill -/

theorem Controller.streaming_fold (colors : List Half) {k : Controller} (h : k.streaming = true) :
    (colors.foldl Controller.pixel k).streaming = true := by
  induction colors generalizing k with
  | nil => exact h
  | cons color colors ih =>
    refine ih ?_
    unfold Controller.pixel
    split <;> exact h

section
variable {s : State} {color : Half} {K n : Nat}

theorem streamChunk_controller (hload : Loaded K color s) (hn : min n s.cfg.dsChunk ≤ K)
    (hs : (controller s).streaming = true) :
    (streamChunk n s).Post
      (Received ((List.replicate (min n s.cfg.dsChunk) color).foldl Controller.pixel (controller s)) s)
      fun _ _ => True := by
  have hdata := dsData_controller (chunkBytes (min n s.cfg.dsChunk) s.dsp.chunk) (s.dsAt (.stream n))
  have hbytes : (List.replicate (min n s.cfg.dsChunk) (colorBytes color)).flatten
      = (List.replicate (min n s.cfg.dsChunk) color).flatMap colorBytes := by rw [List.flatMap_replicate]
  rw [chunkBytes_of_loaded hload hn, hbytes, Controller.data_streaming (by exact hs)] at hdata
  unfold streamChunk
  dsimp only
  rw [chunkBytes_of_loaded hload hn, hbytes]
  exact Run.post_andThen (hdata.mono (fun _ => id) fun _ _ _ => trivial) fun _ ht =>
    ⟨ht.cfg, ht.cx, ht.cy, ht.chunk, ht.controller⟩

/-- The chunks that remain are the pixels that remain. -/
theorem streamChunks_controller (m : Nat) (hc : 1 ≤ s.cfg.dsChunk) (hm : chunkCount n s.cfg.dsChunk = m)
    (hload : Loaded K color s) (hn : min n s.cfg.dsChunk ≤ K) (hs : (controller s).streaming = true) :
    (streamChunks m n s).Post (Received ((List.replicate n color).foldl Controller.pixel (controller s)) s)
      fun _ _ => True := by
  induction m generalizing n s with
  | zero =>
    rw [chunkCount_eq_zero hc hm]
    exact ⟨rfl, rfl, rfl, rfl, rfl⟩
  | succ m ih =>
    refine Run.post_andThen (streamChunk_controller hload hn hs) fun t ht => ?_
    have hsplit : List.replicate n color
        = List.replicate (min n s.cfg.dsChunk) color ++ List.replicate (n - min n s.cfg.dsChunk) color := by
      rw [List.replicate_append_replicate, Nat.add_sub_of_le (Nat.min_le_left _ _)]
    have hload' : Loaded K color t := by rwa [Loaded, ht.chunk]
    have hstream : (controller t).streaming = true := ht.controller ▸ Controller.streaming_fold _ hs
    have hrest := ih (s := t) (n := n - min n s.cfg.dsChunk) (by rwa [ht.cfg]) (by rw [ht.cfg]; exact chunkCount_sub hc hm)
      hload' (by rw [ht.cfg]; exact le_trans (by simp) hn) hstream
    rw [ht.controller, ← List.foldl_append, ← hsplit] at hrest
    exact hrest.mono (fun _ hu => ht.trans hu) fun _ _ => id

/-- A fill of a visible rectangle writes its pixels into its window. -/
theorem fillClamped_controller (hc : s.cfg.Ok) (hd : s.cfg.AddressOpsDistinct) (x y : Half) (w h : Nat) :
    (fillClamped x y w h color s).Post
      (fun t => controller t = (List.replicate (w * h) color).foldl Controller.pixel ((controller s).opened s.cfg x y
        (BitVec.ofNat 16 (x.toNat + w - 1)) (BitVec.ofNat 16 (y.toNat + h - 1))))
      fun _ _ => True := by
  have hwindow := setWindow_controller (s := s.dsAt (.win x y w h color)) hd x y (BitVec.ofNat 16 (x.toNat + w - 1))
    (BitVec.ofNat 16 (y.toNat + h - 1))
  refine Run.post_andThen (hwindow.mono (fun _ => id) fun _ _ _ => trivial) fun m hm => ?_
  have hload := loaded_loadChunk (w * h) color m
  have hcontroller : controller (loadChunk (w * h) color m) = _ := hm.controller
  have hchunks := streamChunks_controller (s := loadChunk (w * h) color m) _ (hm.cfg ▸ hc.chunkPos) rfl hload le_rfl
    (by rw [hcontroller]; rfl)
  rw [hcontroller] at hchunks
  exact hchunks.mono (fun _ ht => ht.controller) fun _ _ => id

end

/-- The positions of a window of w by h pixels. -/
theorem exists_windowPosition_iff {x0 y0 w h px py : Nat} :
    (∃ i, i < w * h ∧ (px, py) = windowPosition x0 y0 w i) ↔ x0 ≤ px ∧ px < x0 + w ∧ y0 ≤ py ∧ py < y0 + h := by
  constructor
  · rintro ⟨i, hi, hp⟩
    obtain ⟨rfl, rfl⟩ := Prod.mk.inj hp
    have hw : 0 < w := Nat.pos_of_ne_zero fun h0 => by simp [h0] at hi
    have hcol := Nat.mod_lt i hw
    have hrow : i / w < h := Nat.div_lt_of_lt_mul hi
    exact ⟨Nat.le_add_right _ _, Nat.add_lt_add_left hcol _, Nat.le_add_right _ _, Nat.add_lt_add_left hrow _⟩
  · rintro ⟨hx, hx', hy, hy'⟩
    have hcol : px - x0 < w := by omega
    have hrow : py - y0 + 1 ≤ h := by omega
    refine ⟨w * (py - y0) + (px - x0), ?_, ?_⟩
    · calc w * (py - y0) + (px - x0) < w * (py - y0) + w := by omega
        _ = w * (py - y0 + 1) := (Nat.mul_succ _ _).symm
        _ ≤ w * h := Nat.mul_le_mul_left w hrow
    · rw [windowPosition, Nat.mul_add_mod, Nat.mod_eq_of_lt hcol, Nat.mul_add_div (by omega), Nat.div_eq_of_lt hcol]
      exact Prod.ext (by dsimp only; omega) (by dsimp only; omega)

/-- What the display shows after a window has been filled with a colour. -/
theorem Controller.AtPixel.shows_fill {x0 y0 w h : Nat} {k : Controller} (hk : k.AtPixel x0 y0 w h 0) (color : Half)
    (px py : Nat) :
    ((List.replicate (w * h) color).foldl Controller.pixel k).shows px py
      = if x0 ≤ px ∧ px < x0 + w ∧ y0 ≤ py ∧ py < y0 + h then some color else k.shows px py := by
  obtain ⟨-, hin, hout⟩ := hk.fold (List.replicate (w * h) color) (by simp)
  simp only [List.length_replicate, Nat.zero_add, List.getElem_replicate] at hin hout
  split
  next hp =>
    obtain ⟨i, hi, hpos⟩ := exists_windowPosition_iff.mpr hp
    obtain ⟨rfl, rfl⟩ := Prod.mk.inj hpos
    exact hin i hi
  next hp => exact hout px py fun i hi hpos => hp (exists_windowPosition_iff.mp ⟨i, hi, hpos⟩)

/-- A clamped side ends where the side or the panel does. -/
theorem add_clampSide {origin side edge : Nat} (h : origin ≤ edge) :
    origin + clampSide origin side edge = min (origin + side) edge := by
  unfold clampSide
  omega

/-- A fill that completes paints the part of its rectangle inside the panel. -/
theorem dsFillRect_shown {s : State} {x y w h : Half} (hc : s.cfg.Ok) (hd : s.cfg.AddressOpsDistinct)
    (hr : s.dsp.ready = true) (color : Half) (px py : Nat) :
    (dsFillRect x y w h color s).Post
      (fun t => shown t px py
        = if x.toNat ≤ px ∧ px < min (x.toNat + w.toNat) s.cfg.panelW ∧ y.toNat ≤ py
              ∧ py < min (y.toNat + h.toNat) s.cfg.panelH
          then some color else shown s px py)
      fun _ _ => True := by
  by_cases hv : rectVisible s.cfg x y w h
  · obtain ⟨hw, hh, hx, hy⟩ := id hv
    have hwpos := clampSide_pos hw hx
    have hhpos := clampSide_pos hh hy
    rw [dsFillRect_visible hr hv, ← add_clampSide hx.le, ← add_clampSide hy.le]
    refine (fillClamped_controller hc hd x y _ _).mono (fun t ht => ?_) fun _ _ => id
    have hlastx := toNat_clampedLast w hx hc.widthLe
    have hlasty := toNat_clampedLast h hy hc.heightLe
    have hat := Controller.atPixel_opened s.cfg (controller s) (x0 := x) (y0 := y)
      (x1 := BitVec.ofNat 16 (x.toNat + clampSide x.toNat w.toNat s.cfg.panelW - 1))
      (y1 := BitVec.ofNat 16 (y.toNat + clampSide y.toNat h.toNat s.cfg.panelH - 1))
      (by rw [hlastx]; omega) (by rw [hlasty]; omega)
    have hwidth {o n : Nat} (hn : 0 < n) : o + n - 1 - o + 1 = n := by omega
    rw [hlastx, hlasty, hwidth hwpos, hwidth hhpos] at hat
    rw [shown_eq, ht]
    exact hat.shows_fill color px py
  · rw [dsFillRect_empty hr hv]
    refine Eq.symm (if_neg fun hp => hv ?_)
    have hne {side : Half} {o p edge : Nat} (hlo : o ≤ p) (hhi : p < min (o + side.toNat) edge) :
        side ≠ 0 ∧ o < edge := by
      refine ⟨?_, by omega⟩
      rintro rfl
      simp at hhi
      omega
    obtain ⟨hx, hx', hy, hy'⟩ := hp
    exact ⟨(hne hx hx').1, (hne hy hy').1, (hne hx hx').2, (hne hy hy').2⟩

/-! ## Pushes -/

section
variable {s t : State}

theorem dsSetWindow_controller (hd : s.cfg.AddressOpsDistinct) (x0 y0 x1 y1 : Half) :
    (dsSetWindow x0 y0 x1 y1 s).Post
      (fun t => (x0.toNat ≤ x1.toNat ∧ y0.toNat ≤ y1.toNat) ∧ controller t = (controller s).opened s.cfg x0 y0 x1 y1)
      fun _ _ => True := by
  cases hr : s.dsp.ready with
  | false =>
    rw [dsSetWindow, needDisplay_not_ready hr]
    trivial
  | true =>
    rw [dsSetWindow_ready hr]
    split
    next hw =>
      obtain ⟨hx, -, hy, -⟩ := windowOk_iff.mp hw
      exact (setWindow_controller hd x0 y0 x1 y1).mono (fun _ ht => ⟨⟨hx, hy⟩, ht.controller⟩) fun _ _ _ => trivial
    next => trivial

theorem dsPush_controller (color : Half) (hs : (controller s).streaming = true) :
    (dsPush color s).Post (fun t => controller t = (controller s).pixel color) fun _ _ => True := by
  cases hr : s.dsp.ready with
  | false =>
    rw [dsPush, needDisplay_not_ready hr]
    trivial
  | true =>
    rw [dsPush_ready hr]
    split
    · have hdata := dsData_controller ([color].flatMap colorBytes) s
      rw [Controller.data_streaming hs] at hdata
      exact Run.post_andThen (hdata.mono (fun _ => id) fun _ _ _ => trivial) fun _ ht => ht.controller
    · trivial

/-- A push that is answered `OK` is a pixel. -/
theorem exec_dsPush_controller {color : Half} (h : exec (.dsPush color) s = .next t)
    (hs : (controller s).streaming = true) (h0 : t.obs.responses = [0] :: s.obs.responses) :
    controller t = (controller s).pixel color := by
  obtain ⟨m, hm, rfl⟩ := ok_of_streamed (streamed_dsPush color s) (Host.Outcome.next.inj h) h0
  have hpost := dsPush_controller color hs
  rw [hm] at hpost
  exact hpost

/-- Each push answers once; if all answers are `OK`, the pixels are written in order. -/
theorem pushAll_controller (colors : List Half) (h : pushAll colors s = some t) :
    ∃ answers, answers.length = colors.length ∧ t.obs.responses = answers ++ s.obs.responses
      ∧ ((controller s).streaming = true → answers = List.replicate colors.length [0] →
          controller t = colors.foldl Controller.pixel (controller s)) := by
  induction colors generalizing s with
  | nil =>
    obtain rfl : s = t := Option.some.inj h
    exact ⟨[], rfl, rfl, fun _ _ => rfl⟩
  | cons color colors ih =>
    obtain ⟨m, hm, hrest⟩ : ∃ m, exec (.dsPush color) s = .next m ∧ pushAll colors m = some t := ⟨_, rfl, h⟩
    obtain ⟨answers, hlen, hresp, hpixels⟩ := ih hrest
    obtain ⟨answer, hanswer⟩ := response_of_streamed (streamed_dsPush color s) (Host.Outcome.next.inj hm)
    refine ⟨answers ++ [answer], by simp [hlen], by rw [hresp, hanswer]; simp, fun hs hall => ?_⟩
    rw [List.length_cons, List.replicate_succ'] at hall
    obtain ⟨hinit, hone⟩ := List.append_inj' hall rfl
    obtain rfl := List.singleton_inj.mp hone
    have hpixel := exec_dsPush_controller hm hs hanswer
    have hstream : (controller m).streaming = true := hpixel ▸ Controller.streaming_fold [color] hs
    rw [hpixels hstream hinit, hpixel, List.foldl_cons]

end

end Sys2Proof.Machine
end

section
/-! What the display shows after one character (`42_display.md` R235, R236). -/

namespace Sys2Proof.Machine

open Sys2Proof.Claims

/-! ## A character -/

/-- What a glyph's position shows: the colour at a set bit, else the background if there is one, else what was there. -/
def glyphShows (set : Bool) (color : Half) (hasBg : Bool) (bg : Half) (old : Option Half) : Option Half :=
  if set then some color else if hasBg then some bg else old

/-- Positions of a cell are pixels of their own. -/
theorem cell_inj {cx cy : Nat} {p q : Nat × Nat} (h : (cx + p.2, cy + p.1) = (cx + q.2, cy + q.1)) : p = q := by
  obtain ⟨hcol, hrow⟩ := Prod.mk.inj h
  exact Prod.ext (Nat.add_left_cancel hrow) (Nat.add_left_cancel hcol)

/-- Outside these positions of the cell at (cx, cy), `t` shows what `s` does. -/
def ShownOutside (cx cy : Nat) (ps : List (Nat × Nat)) (s t : State) : Prop :=
  ∀ px py, (∀ p ∈ ps, (px, py) ≠ (cx + p.2, cy + p.1)) → shown t px py = shown s px py

/-- `t` shows these positions of glyph g in the cell at (cx, cy), and else what `s` shows. -/
structure CellShown (cx cy g : Nat) (color : Half) (hasBg : Bool) (bg : Half) (ps : List (Nat × Nat)) (s t : State) :
    Prop where
  outside : ShownOutside cx cy ps s t
  inside  : ∀ p ∈ ps, shown t (cx + p.2) (cy + p.1)
    = glyphShows (fontBit s.cfg g p.1 p.2) color hasBg bg (shown s (cx + p.2) (cy + p.1))

/-- `t` is `s` after drawing these positions of glyph g at the cursor. -/
structure GlyphShown (g : Nat) (color : Half) (hasBg : Bool) (bg : Half) (ps : List (Nat × Nat)) (s t : State) : Prop
    extends CellShown s.dsp.cx.toNat s.dsp.cy.toNat g color hasBg bg ps s t where
  cfg : t.cfg = s.cfg
  cx  : t.dsp.cx = s.dsp.cx
  cy  : t.dsp.cy = s.dsp.cy

section
variable {s : State} {g : Nat} {color : Half} {hasBg : Bool} {bg : Half}

/-- A pixel at a position of the cell, where it completes, shows its colour there and changes nothing else. -/
theorem pixel_shown (hc : s.cfg.Ok) (hd : s.cfg.AddressOpsDistinct) (p : Nat × Nat) {c : Half}
    (hshows : ∀ old, glyphShows (fontBit s.cfg g p.1 p.2) color hasBg bg old = some c) :
    (pixel (s.dsp.cx.toNat + p.2) (s.dsp.cy.toNat + p.1) c s).Post (GlyphShown g color hasBg bg [p] s)
      fun _ => ShownOutside s.dsp.cx.toNat s.dsp.cy.toNat [p] s := by
  refine (pixel_controller hc hd _ _ _).mono (fun t ht => ?_) fun _ t ht px py _ => shown_congr ht px py
  obtain ⟨k, ht, hwrites⟩ := ht
  have hshown (px py : Nat) : shown t px py
      = if (px, py) = (s.dsp.cx.toNat + p.2, s.dsp.cy.toNat + p.1) then some c else shown s px py := by
    rw [shown_eq, ht.controller, Controller.shows_cons hwrites]
    rfl
  refine ⟨⟨fun px py hne => ?_, fun q hq => ?_⟩, ht.cfg, ht.cx, ht.cy⟩
  · rw [hshown, if_neg (hne p (List.mem_singleton_self p))]
  · obtain rfl := List.mem_singleton.mp hq
    rw [hshown, if_pos rfl, hshows]

theorem glyphPixel_shown (hc : s.cfg.Ok) (hd : s.cfg.AddressOpsDistinct) (p : Nat × Nat) :
    (glyphPixel g color hasBg bg p.1 p.2 s).Post (GlyphShown g color hasBg bg [p] s)
      fun _ => ShownOutside s.dsp.cx.toNat s.dsp.cy.toNat [p] s := by
  have hpixel {c : Half} (hshows : ∀ old, glyphShows (fontBit s.cfg g p.1 p.2) color hasBg bg old = some c) :=
    pixel_shown (s := scanAt p.1 p.2 s) hc hd p hshows
  unfold glyphPixel
  dsimp only
  split
  next hset =>
    exact (hpixel fun old => if_pos hset).mono
      (fun _ ht => ⟨⟨ht.outside, ht.inside⟩, ht.cfg, ht.cx, ht.cy⟩) fun _ _ => id
  next hset =>
    split
    next hbg =>
      exact (hpixel fun old => (if_neg hset).trans (if_pos hbg)).mono
        (fun _ ht => ⟨⟨ht.outside, ht.inside⟩, ht.cfg, ht.cx, ht.cy⟩) fun _ _ => id
    next hbg =>
      refine ⟨⟨fun _ _ _ => rfl, fun q hq => ?_⟩, rfl, rfl, rfl⟩
      obtain rfl := List.mem_singleton.mp hq
      exact ((if_neg hset).trans (if_neg hbg)).symm

/-- The positions drawn show their pixels; the others are as they were, even where a pixel fails. -/
theorem drawGlyph_shown (hc : s.cfg.Ok) (hd : s.cfg.AddressOpsDistinct) (ps : List (Nat × Nat)) (hps : ps.Nodup) :
    (drawGlyph g color hasBg bg ps s).Post (GlyphShown g color hasBg bg ps s)
      fun _ => ShownOutside s.dsp.cx.toNat s.dsp.cy.toNat ps s := by
  induction ps generalizing s with
  | nil => exact ⟨⟨fun _ _ _ => rfl, nofun⟩, rfl, rfl, rfl⟩
  | cons p ps ih =>
    obtain ⟨hnot, hps⟩ := List.nodup_cons.mp hps
    have hp := glyphPixel_shown (g := g) (color := color) (hasBg := hasBg) (bg := bg) hc hd p
    have hmono (t : State) (h : ShownOutside s.dsp.cx.toNat s.dsp.cy.toNat [p] s t) :
        ShownOutside s.dsp.cx.toNat s.dsp.cy.toNat (p :: ps) s t :=
      fun px py hne => h px py fun q hq => hne q (List.mem_cons.mpr (.inl (List.mem_singleton.mp hq)))
    refine Run.post_andThen (hp.mono (fun _ => id) fun _ => hmono) fun m hm => ?_
    have hthen {t : State} (h : ShownOutside m.dsp.cx.toNat m.dsp.cy.toNat ps m t) :
        ShownOutside s.dsp.cx.toNat s.dsp.cy.toNat (p :: ps) s t := fun px py hne => by
      rw [hm.cx, hm.cy] at h
      rw [h px py fun q hq => hne q (List.mem_cons_of_mem p hq), hmono m hm.outside px py hne]
    refine (ih (hm.cfg ▸ hc) (hm.cfg ▸ hd) hps).mono (fun t ht => ?_) fun _ _ => hthen
    have hinside := ht.inside
    have houtside := ht.outside
    rw [hm.cx, hm.cy] at houtside hinside
    rw [hm.cfg] at hinside
    refine ⟨⟨hthen ht.outside, fun q hq => ?_⟩, ht.cfg.trans hm.cfg, ht.cx.trans hm.cx, ht.cy.trans hm.cy⟩
    rcases List.mem_cons.mp hq with rfl | hq
    · rw [houtside _ _ fun r hr he => hnot (by rwa [cell_inj he])]
      exact hm.inside q (List.mem_singleton_self q)
    · have hne : q ≠ p := fun he => hnot (he ▸ hq)
      rw [hinside q hq, hm.outside _ _ fun r hr he => hne ((cell_inj he).trans (List.mem_singleton.mp hr))]

end

theorem mem_scanOrder {p : Nat × Nat} : p ∈ scanOrder ↔ p.1 < 8 ∧ p.2 < 8 := by
  obtain ⟨row, col⟩ := p
  simp [scanOrder]

theorem nodup_scanOrder : scanOrder.Nodup := by decide

/-- A text of one printable character draws its glyph in the cell at its origin, and nothing elsewhere. -/
theorem dsDrawText_shown {s : State} (hc : s.cfg.Ok) (hd : s.cfg.AddressOpsDistinct) (x y color : Half) (hasBg : Bool)
    (bg : Half) {ch : Byte} (hch : printable ch = true) :
    (dsDrawText x y color hasBg bg [ch] s).Post
      (CellShown x.toNat y.toNat (glyphIndex ch) color hasBg bg scanOrder s)
      fun _ => ShownOutside x.toNat y.toNat scanOrder s := by
  have hglyph := drawGlyph_shown (s := homeCursor x y s) (g := glyphIndex ch) (color := color) (hasBg := hasBg) (bg := bg)
    hc hd scanOrder nodup_scanOrder
  have hcx : (homeCursor x y s).dsp.cx.toNat = x.toNat := by
    rw [homeCursor_dsp, BitVec.toNat_setWidth]
    exact Nat.mod_eq_of_lt (by have := x.isLt; omega)
  have hcy : (homeCursor x y s).dsp.cy.toNat = y.toNat := by
    rw [homeCursor_dsp, BitVec.toNat_setWidth]
    exact Nat.mod_eq_of_lt (by have := y.isLt; omega)
  cases hr : s.dsp.ready with
  | false =>
    rw [dsDrawText, needDisplay_not_ready hr]
    exact fun _ _ _ => rfl
  | true =>
    rw [dsDrawText, needDisplay_ready hr, Run.ok_andThen, drawChars, drawChar, if_pos hch]
    refine Run.post_andThen (P := CellShown x.toNat y.toNat (glyphIndex ch) color hasBg bg scanOrder s)
      (Run.post_andThen (hglyph.mono (fun _ => id) fun _ t ht => ?_) fun m hm => ?_) fun _ => id
    · rwa [hcx, hcy] at ht
    · have hcell := hm.toCellShown
      rw [hcx, hcy] at hcell
      have hcursor (px py : Nat) : shown (advanceCursor m) px py = shown m px py := by
        rw [shown, advanceCursor_cfg, advanceCursor_obs, shown]
      exact ⟨fun px py hne => (hcursor px py).trans (hcell.outside px py hne),
        fun p hp => (hcursor _ _).trans (hcell.inside p hp)⟩

end Sys2Proof.Machine
end

section
/-! The statements of `42_display.md`. -/

namespace Sys2Proof.Proofs

open Sys2Proof.Machine Sys2Proof.Claims

/-- Settles O14: a step of the idle block is a host's move, and no command sends bounds outside the panel. -/
theorem noOutOfRangeBytesReachTheBus : Obligations.NoOutOfRangeBytesReachTheBus :=
  fun _ _ hinv hd h ht => busSafe_step_idle hinv.quiet.notBusy hinv.cfgOk hd h ht

/-- Settles O42: the first statement of each fails. -/
theorem displayNeedsConstruction : Obligations.DisplayNeedsConstruction :=
  fun _ _ hi h => exec_not_ready hi h

/-- Settles O45: each request by its own test; a fill has none that is answered so. -/
theorem outOfRangeRequestsAreRefused : Obligations.OutOfRangeRequestsAreRefused := by
  intro s hr
  refine ⟨fun x0 y0 x1 y1 hw => ?_, fun x y color hout => ?_, fun color hfull => ?_,
    fun x y w h color t he => exec_dsFillRect_not_refused hr he⟩
  · have hrun : dsSetWindow x0 y0 x1 y1 s = .err .boundsError s := by
      rw [dsSetWindow_ready hr, if_neg fun hok => hw (windowOk_iff.mp hok)]
    exact exec_dsSetWindow_of_run hrun
  · have hrun : dsPixel x y color s = .err .boundsError s := by
      rw [dsPixel_ready hr, pixel_outside (by omega)]
    exact exec_dsPixel_of_run hrun
  · have hclosed : ¬ streamOpen s.dsp = true := by
      rw [streamOpen_iff]
      rintro ⟨hstream, hremain⟩
      rcases hfull with hs | hz
      · exact nomatch hstream.symm.trans hs
      · exact hremain hz
    have hrun : dsPush color s = .err .boundsError s := by rw [dsPush_ready hr, if_neg hclosed]
    exact exec_dsPush_of_run hrun

/-- Settles O53: only a failed transfer is answered `BusError`, and the transfer has dropped the stream. -/
theorem failedTransferDropsTheStream : Obligations.FailedTransferDropsTheStream := by
  intro i s t hs hc h hr
  obtain ⟨m, hm, ht⟩ := busError_of_responses hs hc h hr
  refine ⟨exec_stream_of_busError h hs hc hr, ?_, ?_, ?_, ?_, ?_, exec_dsReady h⟩
  · rw [ht]
    exact hm.remain rfl
  · rw [ht]
    exact hm.bl
  · rw [ht]
    rfl
  · rw [ht]
    rfl
  · rintro rfl
    have hnot : ¬ succeeded s t := by
      rintro ⟨p, hp⟩
      exact absurd (hr.symm.trans hp) (by simp)
    exact Bool.not_eq_true _ ▸ mt (exec_dsNew_flags h).2.mp hnot

/-- Settles O50: the rectangle is empty after clamping. -/
theorem fillOfNothingSendsNothing : Obligations.FillOfNothingSendsNothing :=
  fun _ _ _ _ _ _ hr hv => exec_dsFillRect_of_run (dsFillRect_empty hr hv)

/-- Settles O43: the hard reset, the table on a good sink, and what `BL` and `DONE` write. -/
theorem initSequenceRuns : Obligations.InitSequenceRuns := by
  intro s answers rest hok hlen h
  obtain ⟨q, hq⟩ := dsNew_sent h hok hlen
  have hticks (a b d k : Nat) : s.tick + BitVec.ofNat 64 (a + b + d + k)
      = s.tick + BitVec.ofNat 64 a + BitVec.ofNat 64 b + BitVec.ofNat 64 (d + k) := by
    simp only [BitVec.ofNat_add, BitVec.add_assoc]
  rw [hticks]
  change Host.Outcome.next ((dsNew s).finish .dsp noPayload) = _
  rw [hq, hardReset_eq, List.append_assoc, List.append_assoc]
  cases hbl : s.cfg.dsHasBl
  · rw [dsReady_dark (by exact hbl)]
    rfl
  · rw [dsReady_lit (by exact hbl)]
    rfl

/-- Settles O55: the instruction of an entry sends it. -/
theorem initCommandsAreSent : Obligations.InitCommandsAreSent := by
  intro i k s answers rest hi hok hlen h
  rw [instr_of_initCommands hi, exec_initInstr, sendInit, sendEntry_sent h hok hlen]
  rfl

/-- Settles O46: five transfers, and an area of at most the panel's. -/
theorem windowIsSet : Obligations.WindowIsSet := by
  intro s x0 y0 x1 y1 answers rest hr hx hx1 hy hy1 hok hlen h
  refine ⟨?_, fun hc => ?_⟩
  · have hrun := (dsSetWindow_ready hr).trans (if_pos (windowOk_iff.mpr ⟨hx, hx1, hy, hy1⟩))
    rw [exec_dsSetWindow_of_run (hrun.trans (setWindow_sent h hok hlen x0 y0 x1 y1))]
    rfl
  · exact (Nat.mul_le_mul (by omega) (by omega)).trans_lt hc.areaLt

/-- Settles O47: one good transfer. -/
theorem pushStreamsOnePixel : Obligations.PushStreamsOnePixel := by
  intro s color a rest hr hs hn ha h
  have hrun := (dsPush_ready (color := color) hr).trans (if_pos (streamOpen_iff.mpr ⟨hs, hn⟩))
  rw [dsData_sent h ha] at hrun
  rw [exec_dsPush_of_run hrun]
  rfl

/-- Settles O48: the pixel's window and its data. -/
theorem pixelIsWritten : Obligations.PixelIsWritten := by
  intro s x y color answers rest hr hx hy hok hlen h
  have hrun := (dsPixel_ready hr).trans (pixel_sent ⟨hx, hy⟩ h hok hlen color)
  rw [pixelEvents, BitVec.ofNat_toNat, BitVec.ofNat_toNat, BitVec.setWidth_eq, BitVec.setWidth_eq] at hrun
  rw [exec_dsPixel_of_run hrun, List.reverse_append]
  rfl

/-- Settles O49: the window, and the chunks of as many pixels as it takes. -/
theorem fillStreamsChunks : Obligations.FillStreamsChunks := by
  intro s x y w h color answers rest hc hr hv hok hlen hspi x1 y1 loaded
  refine ⟨?_, fillEvents_length hc.chunkPos color⟩
  obtain ⟨q, q', hq⟩ := dsFillRect_sent hc hr hv hspi hok hlen
  have hcount : windowCount x y x1 y1 = clampedArea s.cfg x y w h := by
    rw [← clampSide_mul_eq_clampedArea, ← windowCount_of_visible hv hc, clampedLast_eq_clampedEnd w hv.2.2.1,
      clampedLast_eq_clampedEnd h hv.2.2.2]
  have hremain : BitVec.ofNat 32 (windowCount x y x1 y1) - BitVec.ofNat 32 (clampedArea s.cfg x y w h) = 0 := by
    rw [hcount, sub_self]
  rw [exec_dsFillRect_of_run hq]
  simp only [Run.finish_ok, State.respond, State.idle, State.answer, State.dsAt, spend, loadChunk, openWindow, x1, y1]
  rw [hremain]
  rfl

/-- Settles O51: the text makes its calls, none of which is outside the panel. -/
theorem textDrawsItsPixels : Obligations.TextDrawsItsPixels := by
  intro s x y color hasBg bg text answers rest calls cursor hc hr htext hin hok hlen hspi
  have hall : ∀ p ∈ calls, visible s.cfg p = true := fun p hp => visible_iff.mpr (hin p hp)
  have htake : calls.takeWhile (visible s.cfg) = calls := List.takeWhile_eq_self_iff.mpr hall
  obtain ⟨t, ht, hrun⟩ := draws_dsDrawText x y color hasBg bg hc hr htext answers rest hok hspi (htake.symm ▸ hlen)
  rw [if_pos (List.all_eq_true.mpr hall)] at hrun
  rw [htake] at ht
  obtain ⟨hrun, hcur⟩ := hrun
  refine ⟨_, exec_dsDrawText_of_run hrun, ?_, ht.tick, rfl, ht.env, ht.cfg, ht.sws, ht.cbs, hcur.cx, hcur.cy, ?_⟩
  · rw [Run.finish_ok, respond_dsp_obs, ht.obs]
    rfl
  · rw [Run.finish_ok, respond_dsp_dsp, ht.dsp, hcur.ox]

/-- Settles O52: the text makes its calls up to the first one outside the panel. -/
theorem textStopsAtTheFirstPixelOutside : Obligations.TextStopsAtTheFirstPixelOutside := by
  intro s x y color hasBg bg text before after p answers rest hc hr htext hcalls hin hout hok hlen hspi
  have hp : ¬ visible s.cfg p = true := mt visible_iff.mp hout
  have htake : (before ++ p :: after).takeWhile (visible s.cfg) = before := by
    rw [List.takeWhile_append_of_pos fun q hq => visible_iff.mpr (hin q hq), List.takeWhile_cons_of_neg hp,
      List.append_nil]
  have hall : ¬ (before ++ p :: after).all (visible s.cfg) = true :=
    fun h => hp (List.all_eq_true.mp h p (by simp))
  have hdraws := draws_dsDrawText x y color hasBg bg hc hr htext
  rw [hcalls] at hdraws
  obtain ⟨t, ht, hrun⟩ := hdraws answers rest hok hspi (htake.symm ▸ hlen)
  rw [if_neg hall] at hrun
  rw [htake] at ht
  refine ⟨_, exec_dsDrawText_of_run hrun, ?_, ht.tick, rfl, ht.env, ht.cfg, ?_, ht.cbs, rfl, ?_, ?_, ?_, ?_⟩
  · rw [Run.finish_err, fail_dsp_obs, ht.obs]
    rfl
  · rw [Run.finish_err, fail_dsp_sws, ht.sws]
  all_goals rw [Run.finish_err, fail_dsp_dsp, ht.dsp]
  exact hr

/-- Settles O57: a fill that is answered `OK` has written the pixels of its clamped window. -/
theorem fillPaintsTheRectangle : Obligations.FillPaintsTheRectangle := by
  intro s t x y w h color px py hc hd hr he h0
  obtain ⟨m, hm, rfl⟩ := ok_of_streamed (streamed_dsFillRect x y w h color s) (Host.Outcome.next.inj he) h0
  have hshown := dsFillRect_shown (x := x) (y := y) (w := w) (h := h) hc hd hr color px py
  rw [hm] at hshown
  exact hshown

/-- Settles O58: the window is at its first pixel, and each push writes the next. -/
theorem pushesLandInRowOrder : Obligations.PushesLandInRowOrder := by
  intro s m t x0 y0 x1 y1 colors _ hd hm hm0 hlen hpush ht0
  obtain ⟨u, hu, rfl⟩ := ok_of_streamed (streamed_dsSetWindow x0 y0 x1 y1 s) (Host.Outcome.next.inj hm) hm0
  have hopen := dsSetWindow_controller (s := s) hd x0 y0 x1 y1
  rw [hu] at hopen
  obtain ⟨⟨hx, hy⟩, hcontroller⟩ := hopen
  obtain ⟨answers, -, hresp, hpixels⟩ := pushAll_controller colors hpush
  have hanswers := List.append_cancel_right (hresp.symm.trans ht0)
  have hm' : controller (u.respond .dsp []) = _ := hcontroller
  rw [hm'] at hpixels
  have hpixels := hpixels rfl hanswers
  obtain ⟨-, hin, hout⟩ := (Controller.atPixel_opened s.cfg (controller s) hx hy).fold colors (by rwa [Nat.zero_add])
  simp only [Nat.zero_add, ← hpixels] at hin hout
  exact ⟨hin, hout⟩

/-- Settles O59: each position of the glyph writes its own pixel of the cell. -/
theorem glyphTouchesOnlyItsCell : Obligations.GlyphTouchesOnlyItsCell := by
  intro s t x y color hasBg bg ch hc hd hlo hhi he
  have hrun : (dsDrawText x y color hasBg bg [ch] s).finish .dsp noPayload = t := Host.Outcome.next.inj he
  have hpost := dsDrawText_shown hc hd x y color hasBg bg (printable_iff.mpr ⟨hlo, hhi⟩)
  refine ⟨fun px py hp => ?_, fun h0 row col hrow hcol => ?_⟩
  · have hcell : ∀ p ∈ scanOrder, (px, py) ≠ (x.toNat + p.2, y.toNat + p.1) := by
      intro p hmem hpos
      obtain ⟨rfl, rfl⟩ := Prod.mk.inj hpos
      obtain ⟨hrow, hcol⟩ := mem_scanOrder.mp hmem
      exact hp (by omega)
    subst hrun
    rcases hpost.finish_cases (u := .dsp) (p := noPayload) with ⟨m, hm, hf⟩ | ⟨e, m, hm, hf⟩ <;> rw [hf]
    · exact hm.outside px py hcell
    · exact hm px py hcell
  · obtain ⟨m, hm, rfl⟩ := ok_of_streamed (streamed_dsDrawText x y color hasBg bg [ch] s) hrun h0
    rw [hm] at hpost
    have hcell : CellShown x.toNat y.toNat (glyphIndex ch) color hasBg bg scanOrder s m := hpost
    exact hcell.inside (row, col) (mem_scanOrder.mpr ⟨hrow, hcol⟩)

end Sys2Proof.Proofs
end

section
/-! Each host command as one list of statements (`60_exceptions.md` R268 to R270): it is carried out by the sequencer of its unit, and
ends there in one response. -/

namespace Sys2Proof.Machine

open Sys2Proof.Claims

/-! ## The statements of a command -/

/-- The unit that carries an instruction out (`00_scope.md` R2). -/
def unitOf (i : Instr) : BlockUnit := if isSws i then .sws else if isCbs i then .cbs else .dsp

/-- The statements of a host command. A wire command is none: it is a statement of one. -/
def commandRun : Instr → State → Run
  | .swMeasure => swMeasure
  | .swTemperature | .swHumidity => needReading
  | .cbNew addr => cbNew addr
  | .cbRead => cbRead
  | .cbAltitude _ p0 => cbAltitude p0
  | .dsNew => dsNew
  | .dsSetWindow x0 y0 x1 y1 => dsSetWindow x0 y0 x1 y1
  | .dsFillRect x y w h color => dsFillRect x y w h color
  | .dsPixel x y color => dsPixel x y color
  | .dsDrawText x y color hasBg bg text => dsDrawText x y color hasBg bg text
  | .dsPush color => dsPush color
  | .dsOpSwreset | .dsOpSlpout | .dsOpMadctl | .dsOpColmod | .dsOpPorctrl | .dsOpGctrl | .dsOpVcoms | .dsOpLcmctrl
  | .dsOpPwr1 | .dsOpPwr2 | .dsOpPwr3 | .dsOpFrctrl | .dsOpPvgam | .dsOpNvgam | .dsOpInvon | .dsOpDispon
  | .dsOpCaset _ _ | .dsOpRaset _ _ | .dsOpRamwr => .ok

/-- A host command is its statements and then its response or its error. -/
theorem exec_command {i : Instr} (hi : i.isCommand = true) :
    ∃ payload, ∀ s, exec i s = .next ((commandRun i s).finish (unitOf i) payload) := by
  cases i with
  | swMeasure | swTemperature | swHumidity | cbNew | cbRead | cbAltitude | dsNew | dsSetWindow | dsFillRect | dsPixel
  | dsDrawText | dsPush => exact ⟨_, fun _ => rfl⟩
  | _ => exact nomatch hi

/-! ## The response -/

/-- Until its end an operation gives no response, and none of its errors is `OK`. -/
abbrev Run.Unanswered (s : State) (r : Run) : Prop := r.Keeps fun t => t.obs.responses = s.obs.responses

theorem unanswered_of_streamed {opened may : Bool} {s : State} {r : Run}
    (hr : r.Post (Streamed opened s) (DisplayError may s)) : r.Unanswered s :=
  hr.mono (fun _ k => k.responses) fun _ _ k => ⟨k.ne_ok, k.responses⟩

theorem commandRun_unanswered (i : Instr) (s : State) : (commandRun i s).Unanswered s := by
  cases i with
  | swMeasure => exact (swMeasure_post s).mono (fun _ k => k.responses) fun _ _ k => ⟨k.1, k.2.responses⟩
  | swTemperature | swHumidity =>
    exact (needReading_post s).mono (fun _ k => k.responses) fun _ _ k => ⟨k.1, k.2.responses⟩
  | cbNew addr => exact (cbNew_post addr s).mono (fun _ k => k.responses) fun _ _ k => ⟨k.1, k.2.responses⟩
  | cbRead => exact (cbRead_post s).mono (fun _ k => k.responses) fun _ _ k => ⟨k.1, k.2.responses⟩
  | cbAltitude p p0 => exact (cbAltitude_post p0 s).mono (fun _ k => k.responses) fun _ _ k => ⟨k.1, k.2.responses⟩
  | dsNew => exact (dsNew_post s).mono (fun _ k => k.responses) fun _ _ k => ⟨k.1, k.2.responses⟩
  | dsSetWindow => exact unanswered_of_streamed (streamed_dsSetWindow _ _ _ _ s)
  | dsFillRect => exact unanswered_of_streamed (streamed_dsFillRect _ _ _ _ _ s)
  | dsPixel =>
    exact unanswered_of_streamed (may := true) (streamed_needDisplay_andThen (streamed_pixel _ _ _ (.refl s)))
  | dsDrawText => exact unanswered_of_streamed (streamed_dsDrawText _ _ _ _ _ _ s)
  | dsPush => exact unanswered_of_streamed (streamed_dsPush _ s)
  | _ => exact Eq.refl s.obs.responses

section
variable {s t : State} {r : Run} {u : BlockUnit} {payload : State → List Byte}

/-- The end of an operation is its one response. -/
theorem Run.Unanswered.finish_responses (hr : r.Unanswered s) :
    ∃ code rest, (r.finish u payload).obs.responses = (code :: rest) :: s.obs.responses := by
  rcases hr.finish_cases (u := u) (p := payload) with ⟨m, hm, h⟩ | ⟨e, m, ⟨-, hm⟩, h⟩ <;> rw [h]
  · exact ⟨0, payload m, by rw [respond_responses, hm]⟩
  · exact ⟨e.code, [], by rw [fail_responses, hm]⟩

/-- Only an operation that completed answers `OK`. -/
theorem Run.Unanswered.eq_ok (hr : r.Unanswered s) (h : succeeded s (r.finish u payload)) : ∃ m, r = .ok m := by
  cases r with
  | ok m => exact ⟨m, rfl⟩
  | err e m => exact absurd h (not_succeeded_fail u hr.1)

end

/-! ## The sequencer -/

/-- The sequencer of the unit is `IDLE`. -/
def State.IdleAt : BlockUnit → State → Prop
  | .sws, s => s.sws.seq = .idle
  | .cbs, s => s.cbs.seq = .idle
  | .dsp, s => s.dsp.seq = .idle

theorem finish_idleAt (u : BlockUnit) (payload : State → List Byte) (r : Run) : (r.finish u payload).IdleAt u := by
  cases r <;> cases u <;> rfl

theorem unitOf_sws {i : Instr} (hs : isSws i = true) : unitOf i = .sws := if_pos hs

theorem unitOf_cbs {i : Instr} (hc : isCbs i = true) : unitOf i = .cbs := by
  cases i with
  | cbNew | cbRead | cbAltitude => rfl
  | _ => exact nomatch hc

theorem unitOf_dsp {i : Instr} (hs : isSws i = false) (hc : isCbs i = false) : unitOf i = .dsp := by
  rw [unitOf, hs, hc]
  rfl

end Sys2Proof.Machine
end

section
/-! Two runs of a display operation on the same answers, one of which fails where the other does not (`60_exceptions.md` R271): up to
there they are the same run. -/

namespace Sys2Proof.Machine

open Sys2Proof.Claims

/-! ## Two runs -/

/-- `s` with these answers of the sink still to come. -/
def State.answering (l : List SpiAnswer) (s : State) : State := { s with env := { s.env with spi := l } }

/-- A run that was shown `o` at its start has come to `s`. The run `r` began there too, with the same answers but for the one after
the first `k`, which is the failure `bad`, and those after it, which are `rest`: either that answer is still to come and the two are
at the same state, or it has stopped `r` at a transfer that has succeeded on the way to `s`. -/
inductive CutShort (o : Obs) (k : Nat) (bad : SpiAnswer) (rest : List SpiAnswer) (s : State) : Run → Prop
  | ahead {sent : List Event} {next : List SpiAnswer} {a : SpiAnswer} {later : List SpiAnswer} (hbad : bad.ok = false)
      (hobs : s.obs = { o with events := sent ++ o.events }) (hspi : s.env.spi = next ++ a :: later)
      (hk : (sent.filter isTransfer).length + next.length = k) :
      CutShort o k bad rest s (.ok (s.answering (next ++ bad :: rest)))
  | stopped {before after : List Event} {e : Event} {u : State}
      (hevents : s.obs.events = after ++ e :: before ++ o.events) (he : isTransfer e = true)
      (hk : (before.filter isTransfer).length = k) (hobs : u.obs = { o with events := failedForm e :: before ++ o.events })
      (hspi : u.env.spi = rest) : CutShort o k bad rest s (.err .busError u)

section
variable {o : Obs} {k : Nat} {bad : SpiAnswer} {rest : List SpiAnswer} {s m : State} {r : Run}

/-- What is shown after `r` has stopped does not matter to it. -/
theorem CutShort.after_stop {u : State} {new : List Event} (h : CutShort o k bad rest s (.err .busError u))
    (hm : m.obs.events = new ++ s.obs.events) : CutShort o k bad rest m (.err .busError u) := by
  cases h with
  | @stopped _ after _ _ hevents he hk hobs hspi =>
    exact .stopped (after := new ++ after) (by rw [hm, hevents]; simp) he hk hobs hspi

/-- Where no answer is left the failure has been met. -/
theorem CutShort.stopped_of_dry (h : CutShort o k bad rest s r) (hdry : s.env.spi = []) :
    ∃ before e after u, r = .err .busError u ∧ s.obs.events = after ++ e :: before ++ o.events ∧ isTransfer e = true
      ∧ (before.filter isTransfer).length = k ∧ u.obs = { o with events := failedForm e :: before ++ o.events }
      ∧ u.env.spi = rest := by
  cases h with
  | ahead _ _ hspi _ => simp [hdry] at hspi
  | @stopped before after e u hevents he hk hobs hspi => exact ⟨before, e, after, u, rfl, hevents, he, hk, hobs, hspi⟩

/-- `r` goes on from `s` with other answers, or not at all. -/
theorem CutShort.andThen_congr (h : CutShort o k bad rest s r) {f g : State → Run}
    (hfg : ∀ l, f (s.answering l) = g (s.answering l)) : r.andThen f = r.andThen g := by
  cases h with
  | ahead => exact hfg _
  | stopped => rfl

end

/-- The statements `f` keep two such runs together: the second is cut short where the first goes on. -/
structure Follows (f : State → Run) : Prop where
  cut : ∀ {o : Obs} {k : Nat} {bad : SpiAnswer} {rest : List SpiAnswer} {s m : State} {r : Run},
    CutShort o k bad rest s r → f s = .ok m → CutShort o k bad rest m (r.andThen f)

section
variable {f g : State → Run}

theorem Follows.andThen (hf : Follows f) (hg : Follows g) : Follows fun s => (f s).andThen g := by
  refine ⟨fun {o k bad rest s m r} h hm => ?_⟩
  obtain ⟨t, ht, hm⟩ := Run.andThen_eq_ok hm
  rw [← Run.andThen_assoc]
  exact hg.cut (hf.cut h ht) hm

/-- Statements may read anything but the answers to come. -/
theorem Follows.of_reads (h : ∀ s : State, ∃ g, Follows g ∧ ∀ l, f (s.answering l) = g (s.answering l)) : Follows f := by
  refine ⟨fun {o k bad rest s m r} hcut hm => ?_⟩
  obtain ⟨g, hg, hfg⟩ := h s
  rw [hcut.andThen_congr hfg]
  exact hg.cut hcut ((hfg s.env.spi).symm.trans hm)

theorem Follows.ite {c : State → Prop} [∀ s, Decidable (c s)] (hc : ∀ s l, c (s.answering l) ↔ c s) (hf : Follows f)
    (hg : Follows g) : Follows fun s => if c s then f s else g s :=
  .of_reads fun s => by
    by_cases h : c s
    · exact ⟨f, hf, fun l => if_pos ((hc s l).mpr h)⟩
    · exact ⟨g, hg, fun l => if_neg (mt (hc s l).mp h)⟩

theorem follows_err (e : Status) : Follows fun s => .err e s := ⟨fun _ hm => nomatch hm⟩

end

/-! ## Writes between the transfers -/

/-- `w` records no transfer, and neither reads nor writes the answers to come. -/
structure QuietWrite (w : State → State) : Prop where
  answering : ∀ s l, w (s.answering l) = (w s).answering l
  quiet     : ∀ s, ∃ new, (w s).obs = { s.obs with events := new ++ s.obs.events } ∧ new.filter isTransfer = []

section
variable {w : State → State}

/-- A write of registers. -/
theorem QuietWrite.of_obs (hw : ∀ s l, w (s.answering l) = (w s).answering l) (hobs : ∀ s, (w s).obs = s.obs) :
    QuietWrite w := ⟨hw, fun s => ⟨[], hobs s, rfl⟩⟩

theorem QuietWrite.spi (hw : QuietWrite w) (s : State) : (w s).env.spi = s.env.spi :=
  congrArg (·.env.spi) (hw.answering s s.env.spi)

theorem QuietWrite.follows (hw : QuietWrite w) : Follows fun s => .ok (w s) := by
  refine ⟨fun {o k bad rest s m r} h hm => ?_⟩
  obtain rfl := Run.ok.inj hm
  obtain ⟨new, hnew, hquiet⟩ := hw.quiet s
  cases h with
  | @ahead sent next a later hbad hobs hspi hk =>
    rw [Run.ok_andThen, hw.answering]
    refine .ahead (sent := new ++ sent) hbad ?_ ((hw.spi s).trans hspi) ?_
    · rw [hnew, hobs, List.append_assoc]
    · rw [List.filter_append, hquiet, List.nil_append]
      exact hk
  | stopped hevents he hk hobs hspi =>
    exact CutShort.after_stop (.stopped hevents he hk hobs hspi) (congrArg Obs.events hnew)

/-- Statements after a write. -/
theorem Follows.after_write {f : State → Run} (hf : Follows f) (hw : QuietWrite w) : Follows fun s => f (w s) :=
  hw.follows.andThen hf

end

theorem follows_ok : Follows .ok := (QuietWrite.of_obs (w := id) (fun _ _ => rfl) fun _ => rfl).follows

theorem quietWrite_dsAt (q : DsSeq) : QuietWrite (State.dsAt q) := .of_obs (fun _ _ => rfl) fun _ => rfl

theorem quietWrite_delay (n : Nat) : QuietWrite (delay n) := ⟨fun _ _ => rfl, fun _ => ⟨[.delay n], rfl, rfl⟩⟩

/-! ## Transfers -/

/-- A checked transfer whose answer is written out. -/
theorem checked_spiTransfer_given {s : State} {a : SpiAnswer} {l : List SpiAnswer} (h : s.env.spi = a :: l) (dc : Bool)
    (event : Bool → Event) :
    checked (spiTransfer dc event s)
      = if a.ok then .ok (s.sent (BitVec.ofNat 64 a.ticks) dc l [event true])
        else .err .busError (dropStream (s.sent (BitVec.ofNat 64 a.ticks) dc l [event false])) := by
  rw [checked, spiTransfer_given h]
  cases a.ok <;> rfl

theorem ok_of_checked_spiTransfer {s m : State} {a : SpiAnswer} {l : List SpiAnswer} {dc : Bool} {event : Bool → Event}
    (h : s.env.spi = a :: l) (hm : checked (spiTransfer dc event s) = .ok m) :
    a.ok = true ∧ m = s.sent (BitVec.ofNat 64 a.ticks) dc l [event true] := by
  rw [checked_spiTransfer_given h] at hm
  split at hm
  next ha => exact ⟨ha, (Run.ok.inj hm).symm⟩
  next => exact nomatch hm

/-- A transfer meets the failure, or is the same in both runs. -/
theorem follows_transfer (dc : Bool) {event : Bool → Event} (he : isTransfer (event true) = true)
    (hfail : failedForm (event true) = event false) : Follows fun s => checked (spiTransfer dc event s) := by
  refine ⟨fun {o k bad rest s m r} h hm => ?_⟩
  cases h with
  | @ahead sent next a later hbad hobs hspi hk =>
    rw [Run.ok_andThen]
    cases next with
    | nil =>
      obtain ⟨-, rfl⟩ := ok_of_checked_spiTransfer hspi hm
      rw [checked_spiTransfer_given (s := s.answering ([] ++ bad :: rest)) rfl, hbad]
      refine .stopped (before := sent) (after := []) (e := event true) ?_ he hk ?_ rfl
      · simp [State.sent, hobs]
      · rw [hfail]
        simp [State.sent, State.answering, dropStream, hobs]
    | cons b next =>
      obtain ⟨hb, rfl⟩ := ok_of_checked_spiTransfer hspi hm
      rw [checked_spiTransfer_given (s := s.answering (b :: next ++ bad :: rest)) rfl, if_pos hb]
      refine .ahead (sent := event true :: sent) hbad ?_ rfl ?_
      · simp [State.sent, hobs]
      · rw [List.filter_cons_of_pos he, ← hk, List.length_cons, List.length_cons]
        omega
  | stopped hevents he hk hobs hspi =>
    rcases checked_spiTransfer_cases dc event s with ⟨t, ht, hsent⟩ | ⟨t, ht, -⟩
    · obtain rfl := Run.ok.inj (ht.symm.trans hm)
      exact CutShort.after_stop (new := [event true]) (.stopped hevents he hk hobs hspi) (congrArg Obs.events hsent.obs)
    · exact nomatch ht.symm.trans hm

theorem follows_dsCmd (b : Byte) : Follows (dsCmd b) := follows_transfer false (event := .spiCmd b) rfl rfl

theorem follows_dsData (bytes : List Byte) : Follows (dsData bytes) :=
  follows_transfer true (event := .spiData bytes) rfl rfl

/-! ## Wire commands and windows -/

theorem follows_sendInit (k : Fin 16) : Follows (sendInit k) := by
  have hentry (e : InitEntry) : Follows (sendEntry e) :=
    ((follows_dsCmd e.op).andThen (.ite (fun _ _ => .rfl) follows_ok (follows_dsData e.data))).andThen
      (quietWrite_delay e.delay).follows
  exact .of_reads fun s => ⟨_, hentry s.cfg.dsInitSeq[k], fun _ => rfl⟩

theorem follows_sendCaset (x0 x1 : Half) : Follows (sendCaset x0 x1) :=
  .of_reads fun s => ⟨_, (follows_dsCmd s.cfg.dsOpCaset).andThen (follows_dsData (boundBytes x0 x1)), fun _ => rfl⟩

theorem follows_sendRaset (y0 y1 : Half) : Follows (sendRaset y0 y1) :=
  .of_reads fun s => ⟨_, (follows_dsCmd s.cfg.dsOpRaset).andThen (follows_dsData (boundBytes y0 y1)), fun _ => rfl⟩

theorem follows_sendRamwr : Follows sendRamwr := .of_reads fun s => ⟨_, follows_dsCmd s.cfg.dsOpRamwr, fun _ => rfl⟩

theorem follows_setWindow (x0 y0 x1 y1 : Half) : Follows (setWindow x0 y0 x1 y1) := by
  have hopen : QuietWrite (openWindow x0 y0 x1 y1) := .of_obs (fun _ _ => rfl) fun _ => rfl
  exact (((follows_sendCaset x0 x1).andThen (follows_sendRaset y0 y1)).andThen follows_sendRamwr).andThen hopen.follows

/-! ## The operations -/

theorem follows_initLoop (ks : List (Fin 16)) : Follows (initLoop ks) := by
  induction ks with
  | nil => exact follows_ok
  | cons k ks ih => exact ((follows_sendInit k).after_write (quietWrite_dsAt (.init k))).andThen ih

theorem follows_dsReady : Follows fun s => .ok (dsReady s) := by
  have hlit : QuietWrite fun s => dsDone (setBl true (s.dsAt .bl)) :=
    ⟨fun _ _ => rfl, fun _ => ⟨[.pin .bl true], rfl, rfl⟩⟩
  have hdark : QuietWrite fun s => dsDone (s.dsAt .bl) := .of_obs (fun _ _ => rfl) fun _ => rfl
  refine .of_reads fun s => ?_
  cases hbl : s.cfg.dsHasBl
  · exact ⟨_, hdark.follows, fun _ => congrArg Run.ok (dsReady_dark hbl)⟩
  · exact ⟨_, hlit.follows, fun _ => congrArg Run.ok (dsReady_lit hbl)⟩

theorem follows_dsNew : Follows dsNew := by
  have hreset : QuietWrite fun s => hardReset (dsEntry s) :=
    ⟨fun _ _ => rfl, fun s =>
      ⟨[.delay s.cfg.dsResetWait, .pin .rstN true, .delay s.cfg.dsResetLow, .pin .rstN false], rfl, rfl⟩⟩
  exact ((follows_initLoop _).after_write hreset).andThen follows_dsReady

theorem follows_needDisplay : Follows needDisplay := .ite (fun _ _ => .rfl) follows_ok (follows_err _)

theorem follows_dsSetWindow (x0 y0 x1 y1 : Half) : Follows (dsSetWindow x0 y0 x1 y1) :=
  follows_needDisplay.andThen (.ite (fun _ _ => .rfl) (follows_setWindow x0 y0 x1 y1) (follows_err _))

theorem quietWrite_spend (n : Nat) : QuietWrite (spend n) := .of_obs (fun _ _ => rfl) fun _ => rfl

theorem follows_dsPush (color : Half) : Follows (dsPush color) :=
  follows_needDisplay.andThen
    (.ite (fun _ _ => .rfl) ((follows_dsData _).andThen (quietWrite_spend 1).follows) (follows_err _))

theorem follows_pixel (px py : Nat) (color : Half) : Follows (pixel px py color) := by
  have hfull : QuietWrite windowFull := .of_obs (fun _ _ => rfl) fun _ => rfl
  exact .ite (fun _ _ => .rfl) (((follows_setWindow _ _ _ _).andThen (follows_dsData _)).andThen hfull.follows)
    (follows_err _)

/-! ### The fill engine -/

theorem follows_streamChunk (n : Nat) : Follows (streamChunk n) :=
  .of_reads fun s => ⟨_, ((follows_dsData (chunkBytes (min n s.cfg.dsChunk) s.dsp.chunk)).after_write
    (quietWrite_dsAt (.stream n))).andThen (quietWrite_spend (min n s.cfg.dsChunk)).follows, fun _ => rfl⟩

theorem follows_streamChunks (m n : Nat) : Follows (streamChunks m n) := by
  induction m generalizing n with
  | zero => exact follows_ok
  | succ m ih =>
    exact .of_reads fun s => ⟨_, (follows_streamChunk n).andThen (ih (n - min n s.cfg.dsChunk)), fun _ => rfl⟩

theorem follows_fillClamped (x y : Half) (w h : Nat) (color : Half) : Follows (fillClamped x y w h color) := by
  have hload : QuietWrite (loadChunk (w * h) color) := .of_obs (fun _ _ => rfl) fun _ => rfl
  refine Follows.andThen ((follows_setWindow _ _ _ _).after_write (quietWrite_dsAt _)) (.of_reads fun s => ?_)
  exact ⟨_, (follows_streamChunks (chunkCount (w * h) s.cfg.dsChunk) (w * h)).after_write hload, fun _ => rfl⟩

theorem follows_dsFillRect (x y w h color : Half) : Follows (dsFillRect x y w h color) := by
  refine follows_needDisplay.andThen (.ite (fun _ _ => .rfl) (quietWrite_dsAt _).follows (.of_reads fun s => ?_))
  exact ⟨_, follows_fillClamped x y (clampSide x.toNat w.toNat s.cfg.panelW) (clampSide y.toNat h.toNat s.cfg.panelH) color,
    fun _ => rfl⟩

/-! ### The glyph rasterizer -/

theorem follows_glyphPixel (g : Nat) (color : Half) (hasBg : Bool) (bg : Half) (row col : Nat) :
    Follows (glyphPixel g color hasBg bg row col) := by
  have hscan : QuietWrite (scanAt row col) := .of_obs (fun _ _ => rfl) fun _ => rfl
  have hpixel (c : Half) :
      Follows fun s => pixel (s.dsp.cx.toNat + col) (s.dsp.cy.toNat + row) c (scanAt row col s) :=
    .of_reads fun s => ⟨_, (follows_pixel (s.dsp.cx.toNat + col) (s.dsp.cy.toNat + row) c).after_write hscan, fun _ => rfl⟩
  exact .ite (fun _ _ => .rfl) (hpixel color) (.ite (fun _ _ => .rfl) (hpixel bg) hscan.follows)

theorem follows_drawGlyph (g : Nat) (color : Half) (hasBg : Bool) (bg : Half) (ps : List (Nat × Nat)) :
    Follows (drawGlyph g color hasBg bg ps) := by
  induction ps with
  | nil => exact follows_ok
  | cons p ps ih => exact (follows_glyphPixel g color hasBg bg p.1 p.2).andThen ih

theorem quietWrite_advanceCursor : QuietWrite advanceCursor := by
  refine .of_obs (fun s l => ?_) advanceCursor_obs
  dsimp only [advanceCursor, State.answering]
  split <;> rfl

theorem follows_drawChars (color : Half) (hasBg : Bool) (bg : Half) (text : List Byte) :
    Follows (drawChars color hasBg bg text) := by
  have hchar (ch : Byte) : Follows (drawChar color hasBg bg ch) :=
    .ite (fun _ _ => .rfl) ((follows_drawGlyph _ _ _ _ _).andThen quietWrite_advanceCursor.follows) follows_ok
  induction text with
  | nil => exact follows_ok
  | cons ch text ih => exact (hchar ch).andThen ih

theorem follows_dsDrawText (x y color : Half) (hasBg : Bool) (bg : Half) (text : List Byte) :
    Follows (dsDrawText x y color hasBg bg text) := by
  have hhome : QuietWrite (homeCursor x y) := .of_obs (fun _ _ => rfl) fun _ => rfl
  exact follows_needDisplay.andThen ((follows_drawChars color hasBg bg text).after_write hhome)

/-- Every display command is cut short at the transfer that fails. -/
theorem follows_commandRun {i : Instr} (hs : isSws i = false) (hc : isCbs i = false) : Follows (commandRun i) := by
  cases i with
  | swMeasure | swTemperature | swHumidity => exact nomatch hs
  | cbNew | cbRead | cbAltitude => exact nomatch hc
  | dsNew => exact follows_dsNew
  | dsSetWindow => exact follows_dsSetWindow _ _ _ _
  | dsFillRect => exact follows_dsFillRect _ _ _ _ _
  | dsPixel => exact follows_needDisplay.andThen (follows_pixel _ _ _)
  | dsDrawText => exact follows_dsDrawText _ _ _ _ _ _
  | dsPush => exact follows_dsPush _
  | _ => exact follows_ok

/-- Two runs from one state, the answer after the first k of the second a failure. -/
theorem cutShort_start {s : State} {good : List SpiAnswer} {k : Nat} {bad : SpiAnswer} (rest : List SpiAnswer)
    (hk : k < good.length) (hbad : bad.ok = false) :
    CutShort s.obs k bad rest (s.answering good) (.ok (s.answering (good.take k ++ bad :: rest))) :=
  .ahead (s := s.answering good) (sent := []) hbad rfl
    ((List.take_append_drop k good).symm.trans (congrArg _ (List.drop_eq_getElem_cons hk)))
    (by simpa using hk.le)

end Sys2Proof.Machine
end

section
/-! The statements of `60_exceptions.md`. -/

namespace Sys2Proof.Proofs

open Sys2Proof.Machine Sys2Proof.Claims

/-- Settles O17: a failed statement is the last, and `fail` writes what R268 lists. -/
theorem takingAnErrorStopsTheOperation : Obligations.TakingAnErrorStopsTheOperation :=
  ⟨Run.err_andThen, fun _ _ => ⟨rfl, rfl, rfl⟩⟩

/-- Settles O16: a command is statements that give no response, and then its unit's response or error. -/
theorem everyCommandEndsInOneResponse : Obligations.EveryCommandEndsInOneResponse := by
  intro i s hi
  obtain ⟨payload, hexec⟩ := exec_command hi
  obtain ⟨code, rest, hresp⟩ := (commandRun_unanswered i s).finish_responses (u := unitOf i) (payload := payload)
  have hidle := finish_idleAt (unitOf i) payload (commandRun i s)
  refine ⟨_, code, rest, hexec s, finish_busy _ _ _, hresp, fun hs => ?_, fun hc => ?_, fun hs hc => ?_⟩
  · rwa [unitOf_sws hs] at hidle ⊢
  · rwa [unitOf_cbs hc] at hidle ⊢
  · rwa [unitOf_dsp hs hc] at hidle ⊢

/-- Settles O54: the two runs are one up to the failure, and the succeeding run used all its answers, so the failure was met. -/
theorem failedTrafficIsAPrefix : Obligations.FailedTrafficIsAPrefix := by
  intro i s t good k bad rest hs hc hi he h0 hdry hk hbad
  obtain ⟨payload, hexec⟩ := exec_command hi
  rw [unitOf_dsp hs hc] at hexec
  obtain rfl := Host.Outcome.next.inj ((hexec (s.answering good)).symm.trans he)
  obtain ⟨m, hm⟩ := (commandRun_unanswered i (s.answering good)).eq_ok ⟨[], h0⟩
  rw [hm] at hdry ⊢
  obtain ⟨before, e, after, u, hrun, hevents, htransfer, hcount, hobs, hspi⟩ :=
    ((follows_commandRun hs hc).cut (cutShort_start rest hk hbad) hm).stopped_of_dry hdry
  have hcut : commandRun i (s.answering (good.take k ++ bad :: rest)) = .err .busError u := hrun
  refine ⟨before, e, after, u.fail .dsp .busError, hevents, htransfer, hcount, ?_, ?_, ?_, hspi⟩
  · rw [← Run.finish_err .dsp payload, ← hcut]
    exact hexec _
  · rw [fail_responses, hobs]
    rfl
  · rw [fail_dsp_obs, hobs]

end Sys2Proof.Proofs
end

section
/-! The display's part of the invariant (`10_state.md` R38, R39, R41; `70_reset_and_hazards.md` R310): every statement of a display
operation keeps it, whatever the sink answers. `DisplayRule` does not speak of the window registers, `DS_REMAIN` and the chunk buffer, so
the operations are gone through here with a relation that does. -/

namespace Sys2Proof.Machine

open Sys2Proof.Claims

/-- What the invariant says of the parameters and of the display's registers, at every statement of an operation. -/
structure State.PanelOk (s : State) : Prop where
  cfgOk     : s.cfg.Ok
  csHigh    : s.dsp.csN = true
  window    : s.dsp.stream = true → s.WindowInside
  chunkSize : s.dsp.chunk.length = s.cfg.dsChunk

/-- The corners of the window registers. -/
def Dsp.corners (d : Dsp) : (Half × Half) × Half × Half := ((d.x0, d.y0), d.x1, d.y1)

/-- From `s` to `t` no window is opened: it is the same or dropped, and at most fewer of its pixels are left. Chip select is not
asserted, and the chunk buffer keeps its size. -/
structure WindowKept (s t : State) : Prop where
  cfg     : t.cfg = s.cfg
  csHigh  : s.dsp.csN = true → t.dsp.csN = true
  stream  : t.dsp.stream = true → s.dsp.stream = true
  corners : t.dsp.corners = s.dsp.corners
  remain  : t.dsp.remain.toNat ≤ s.dsp.remain.toNat
  chunk   : t.dsp.chunk.length = s.dsp.chunk.length

theorem WindowKept.refl (s : State) : WindowKept s s := ⟨rfl, id, id, rfl, le_rfl, rfl⟩

theorem WindowKept.trans {s t u : State} (h : WindowKept s t) (k : WindowKept t u) : WindowKept s u :=
  ⟨k.cfg.trans h.cfg, k.csHigh ∘ h.csHigh, h.stream ∘ k.stream, k.corners.trans h.corners, k.remain.trans h.remain,
    k.chunk.trans h.chunk⟩

theorem WindowKept.of_eq {s t : State} (hcfg : t.cfg = s.cfg) (hdsp : t.dsp = s.dsp) : WindowKept s t := by
  constructor <;> simp [hcfg, hdsp]

/-- A transfer leaves chip select deasserted if it was. -/
theorem Transferred.windowKept {e : Event} {dc : Bool} {s t : State} (k : Transferred e dc s t) : WindowKept s t := by
  refine ⟨k.cfg, fun h => ?_, fun h => ?_, ?_, ?_, ?_⟩
  · rw [k.dsp]
    dsimp only
    split
    · rfl
    · exact h
  · rwa [k.dsp] at h
  all_goals rw [k.dsp]
  · rfl

theorem State.PanelOk.kept {s t : State} (h : s.PanelOk) (k : WindowKept s t) : t.PanelOk := by
  refine ⟨k.cfg ▸ h.cfgOk, k.csHigh h.csHigh, fun ht => ?_, by rw [k.chunk, k.cfg, h.chunkSize]⟩
  obtain ⟨hcolumns, hrows, hremain⟩ := h.window (k.stream ht)
  obtain ⟨hlo, hhi⟩ := Prod.mk.inj k.corners
  obtain ⟨hx0, hy0⟩ := Prod.mk.inj hlo
  obtain ⟨hx1, hy1⟩ := Prod.mk.inj hhi
  constructor <;> simp only [hx0, hy0, hx1, hy1, k.cfg]
  · exact hcolumns
  · exact hrows
  · exact k.remain.trans hremain

/-! ## Wire commands and the window encoder -/

theorem panelOk_finish {t : State} {r : Run} (hr : r.Post State.PanelOk fun _ => State.PanelOk)
    (ht : r.finish .dsp noPayload = t) : t.PanelOk := by
  subst ht
  rcases hr.finish_cases (u := .dsp) (p := noPayload) with ⟨m, hm, h⟩ | ⟨e, m, hm, h⟩ <;> rw [h]
  · exact hm.kept ⟨rfl, id, id, rfl, le_rfl, rfl⟩
  · exact hm.kept ⟨rfl, id, id, rfl, le_rfl, rfl⟩

section
variable {s t : State}

theorem windowKept_dropStream (h : WindowKept s t) : WindowKept s (dropStream t) :=
  h.trans ⟨rfl, id, nofun, rfl, Nat.zero_le _, rfl⟩

theorem windowKept_transfer {r : Run} {e f : Event} {dc : Bool} (h : WindowKept s t)
    (hr : (∃ u, r = .ok u ∧ Transferred e dc t u) ∨ ∃ u, r = .err .busError (dropStream u) ∧ Transferred f dc t u) :
    r.Ends (WindowKept s) := by
  rcases hr with ⟨u, rfl, k⟩ | ⟨u, rfl, k⟩
  · exact h.trans k.windowKept
  · exact windowKept_dropStream (h.trans k.windowKept)

theorem windowKept_dsCmd (b : Byte) (h : WindowKept s t) : (dsCmd b t).Ends (WindowKept s) :=
  windowKept_transfer h (dsCmd_cases b t)

theorem windowKept_dsData (bytes : List Byte) (h : WindowKept s t) : (dsData bytes t).Ends (WindowKept s) :=
  windowKept_transfer h (dsData_cases bytes t)

theorem windowKept_sendInit (k : Fin 16) (h : WindowKept s t) : (sendInit k t).Ends (WindowKept s) := by
  refine Run.ends_andThen (Run.ends_andThen (windowKept_dsCmd _ h) fun m hm => ?_) fun _ hm =>
    hm.trans ⟨rfl, id, id, rfl, le_rfl, rfl⟩
  split
  · exact hm
  · exact windowKept_dsData _ hm

theorem windowKept_initLoop (ks : List (Fin 16)) (h : WindowKept s t) : (initLoop ks t).Ends (WindowKept s) := by
  induction ks generalizing t with
  | nil => exact h
  | cons k ks ih =>
    exact Run.ends_andThen (windowKept_sendInit k (h.trans ⟨rfl, id, id, rfl, le_rfl, rfl⟩)) fun _ => ih

theorem windowKept_backlightOn (s : State) : WindowKept s (backlightOn s) := by
  unfold backlightOn
  split <;> exact ⟨rfl, id, id, rfl, le_rfl, rfl⟩

/-- `DS_NEW` drops the window and opens none. -/
theorem windowKept_dsNew (s : State) : (dsNew s).Ends (WindowKept s) := by
  have hreset : WindowKept s (hardReset (dsEntry s)) := ⟨rfl, id, nofun, rfl, Nat.zero_le _, rfl⟩
  refine Run.ends_andThen (windowKept_initLoop _ hreset) fun m hm => ?_
  exact (hm.trans (windowKept_backlightOn m)).trans ⟨rfl, id, id, rfl, le_rfl, rfl⟩

/-- The transfers of the window encoder, before it writes the registers. -/
theorem windowKept_sendWindow (x0 y0 x1 y1 : Half) (s : State) :
    (((sendCaset x0 x1 s).andThen (sendRaset y0 y1)).andThen sendRamwr).Ends (WindowKept s) := by
  refine Run.ends_andThen (Run.ends_andThen (Run.ends_andThen (windowKept_dsCmd _ (.refl s)) ?_) ?_) ?_
  · exact fun _ => windowKept_dsData _
  · exact fun _ k => Run.ends_andThen (windowKept_dsCmd _ k) fun _ => windowKept_dsData _
  · exact fun _ => windowKept_dsCmd _

end

theorem Run.post_of_ends {P : State → Prop} {r : Run} (h : r.Ends P) : r.Post P fun _ => P := by
  cases r <;> exact h

theorem WindowKept.run_panelOk {s : State} {r : Run} (hr : r.Ends (WindowKept s)) (h : s.PanelOk) :
    r.Post State.PanelOk fun _ => State.PanelOk :=
  (Run.post_of_ends hr).mono (fun _ k => h.kept k) fun _ _ k => h.kept k

section
variable {s : State} {x0 y0 x1 y1 : Half}

/-- The registers of a legal window. -/
theorem panelOk_openWindow (h : s.PanelOk) (hw : windowOk s.cfg x0 y0 x1 y1 = true) :
    (openWindow x0 y0 x1 y1 s).PanelOk := by
  obtain ⟨hx, hx1, hy, hy1⟩ := windowOk_iff.mp hw
  refine ⟨h.cfgOk, h.csHigh, fun _ => ⟨⟨hx, hx1⟩, ⟨hy, hy1⟩, ?_⟩, h.chunkSize⟩
  exact (BitVec.toNat_ofNat _ _).trans_le (Nat.mod_le _ _)

/-- The encoder opens a legal window with all its pixels left, or fails without a window. -/
theorem panelOk_setWindow (h : s.PanelOk) (hw : windowOk s.cfg x0 y0 x1 y1 = true) :
    (setWindow x0 y0 x1 y1 s).Post
      (fun t => t.PanelOk ∧ t.dsp.remain = BitVec.ofNat 32 (windowCount x0 y0 x1 y1)) fun _ => State.PanelOk := by
  have hsent := (Run.post_of_ends (windowKept_sendWindow x0 y0 x1 y1 s)).mono (fun _ k => k) fun _ _ k => h.kept k
  exact Run.post_andThen hsent fun m k => ⟨panelOk_openWindow (h.kept k) (k.cfg ▸ hw), rfl⟩

theorem panelOk_dsData (bytes : List Byte) (h : s.PanelOk) :
    (dsData bytes s).Post State.PanelOk fun _ => State.PanelOk :=
  WindowKept.run_panelOk (windowKept_dsData bytes (.refl s)) h

end

/-! ## The fill engine -/

/-- Inside a fill of which `n` pixels are left: the window takes as many. -/
structure State.Filling (n : Nat) (s : State) : Prop extends s.PanelOk where
  left : n ≤ s.dsp.remain.toNat

theorem toNat_sub_ofNat_of_le {r : Word} {k : Nat} (h : k ≤ r.toNat) : (r - BitVec.ofNat 32 k).toNat = r.toNat - k := by
  have hk : (BitVec.ofNat 32 k).toNat = k := Nat.mod_eq_of_lt (h.trans_lt r.isLt)
  rw [BitVec.toNat_sub_of_le (by rwa [BitVec.le_def, hk]), hk]

/-- Pixels that the window takes are spent. -/
theorem windowKept_spend {k : Nat} {s : State} (h : k ≤ s.dsp.remain.toNat) : WindowKept s (spend k s) :=
  ⟨rfl, id, id, rfl, by rw [spend_dsp, toNat_sub_ofNat_of_le h]; exact Nat.sub_le _ _, rfl⟩

section
variable {s : State} {n : Nat}

theorem filling_spend {k : Nat} (hk : k ≤ n) (h : s.Filling n) : (spend k s).Filling (n - k) := by
  have hle : k ≤ s.dsp.remain.toNat := hk.trans h.left
  refine ⟨h.toPanelOk.kept (windowKept_spend hle), ?_⟩
  rw [spend_dsp, toNat_sub_ofNat_of_le hle]
  exact Nat.sub_le_sub_right h.left k

theorem filling_dsData (bytes : List Byte) (h : s.Filling n) :
    (dsData bytes s).Post (State.Filling n) fun _ => State.PanelOk := by
  have hpanel := panelOk_dsData bytes h.toPanelOk
  rcases dsData_cases bytes s with ⟨t, hr, ht⟩ | ⟨t, hr, _⟩ <;> rw [hr] at hpanel ⊢
  · exact ⟨hpanel, by rw [ht.dsp]; exact h.left⟩
  · exact hpanel

theorem filling_streamChunk (h : s.Filling n) :
    (streamChunk n s).Post (State.Filling (n - min n s.cfg.dsChunk)) fun _ => State.PanelOk := by
  have hat : (s.dsAt (.stream n)).Filling n :=
    ⟨h.toPanelOk.kept ⟨rfl, id, id, rfl, le_rfl, rfl⟩, h.left⟩
  exact Run.post_andThen (filling_dsData _ hat) fun _ ht => filling_spend (Nat.min_le_left _ _) ht

theorem panelOk_streamChunks (m : Nat) (h : s.Filling n) :
    (streamChunks m n s).Post State.PanelOk fun _ => State.PanelOk := by
  induction m generalizing n s with
  | zero => exact h.toPanelOk
  | succ m ih => exact Run.post_andThen (filling_streamChunk h) fun _ => ih

/-- Loading the chunk buffer keeps its size. -/
theorem windowKept_loadChunk (color : Half) (h : s.PanelOk) : WindowKept s (loadChunk n color s) := by
  refine ⟨rfl, id, id, rfl, le_rfl, ?_⟩
  have hsize := h.chunkSize
  simp only [loadChunk_dsp, List.length_append, List.length_replicate, List.length_drop]
  omega

end

/-- A clamped rectangle has at most the panel's pixels (`42_display.md` R231), so that they fit `DS_REMAIN`. -/
theorem toNat_ofNat_clamped {c : Config} (hc : c.Ok) (x y w h : Half) :
    (BitVec.ofNat 32 (clampSide x.toNat w.toNat c.panelW * clampSide y.toNat h.toNat c.panelH)).toNat
      = clampSide x.toNat w.toNat c.panelW * clampSide y.toNat h.toNat c.panelH := by
  have hwidth : clampSide x.toNat w.toNat c.panelW ≤ c.panelW := (Nat.min_le_right _ _).trans (Nat.sub_le _ _)
  have hheight : clampSide y.toNat h.toNat c.panelH ≤ c.panelH := (Nat.min_le_right _ _).trans (Nat.sub_le _ _)
  exact Nat.mod_eq_of_lt ((Nat.mul_le_mul hwidth hheight).trans_lt hc.areaLt)

theorem panelOk_fillClamped {s : State} {x y w h : Half} (color : Half) (hs : s.PanelOk) (hv : rectVisible s.cfg x y w h) :
    (fillClamped x y (clampSide x.toNat w.toNat s.cfg.panelW) (clampSide y.toNat h.toNat s.cfg.panelH) color s).Post
      State.PanelOk fun _ => State.PanelOk := by
  have hat (q : DsSeq) : (s.dsAt q).PanelOk := hs.kept ⟨rfl, id, id, rfl, le_rfl, rfl⟩
  refine Run.post_andThen (panelOk_setWindow (hat _) (windowOk_of_visible hv hs.cfgOk)) fun t ht => ?_
  obtain ⟨hpanel, hremain⟩ := ht
  refine panelOk_streamChunks _ ⟨hpanel.kept (windowKept_loadChunk color hpanel), ?_⟩
  rw [windowCount_of_visible hv hs.cfgOk] at hremain
  rw [loadChunk_dsp, hremain, toNat_ofNat_clamped hs.cfgOk]

/-! ## The operations -/

section
variable {s : State}

theorem panelOk_pixel (px py : Nat) (c : Half) (h : s.PanelOk) :
    (pixel px py c s).Post State.PanelOk fun _ => State.PanelOk := by
  unfold pixel
  dsimp only
  split
  next hp =>
    have hwindow := panelOk_setWindow h (windowOk_of_onPanel hp h.cfgOk)
    refine Run.post_andThen (Run.post_andThen hwindow fun t ht => panelOk_dsData _ ht.1) fun t ht => ?_
    exact ht.kept ⟨rfl, id, id, rfl, Nat.zero_le _, rfl⟩
  next => exact h

theorem panelOk_glyphPixel (g : Nat) (color : Half) (hasBg : Bool) (bg : Half) (row col : Nat) (h : s.PanelOk) :
    (glyphPixel g color hasBg bg row col s).Post State.PanelOk fun _ => State.PanelOk := by
  have hscan : (scanAt row col s).PanelOk := h.kept ⟨rfl, id, id, rfl, le_rfl, rfl⟩
  unfold glyphPixel
  dsimp only
  split
  · exact panelOk_pixel _ _ _ hscan
  · split
    · exact panelOk_pixel _ _ _ hscan
    · exact hscan

theorem panelOk_drawGlyph (g : Nat) (color : Half) (hasBg : Bool) (bg : Half) (ps : List (Nat × Nat)) (h : s.PanelOk) :
    (drawGlyph g color hasBg bg ps s).Post State.PanelOk fun _ => State.PanelOk := by
  induction ps generalizing s with
  | nil => exact h
  | cons p ps ih => exact Run.post_andThen (panelOk_glyphPixel _ _ _ _ _ _ h) fun _ => ih

theorem windowKept_advanceCursor (s : State) : WindowKept s (advanceCursor s) := by
  unfold advanceCursor
  dsimp only
  split <;> exact ⟨rfl, id, id, rfl, le_rfl, rfl⟩

theorem panelOk_drawChars (color : Half) (hasBg : Bool) (bg : Half) (text : List Byte) (h : s.PanelOk) :
    (drawChars color hasBg bg text s).Post State.PanelOk fun _ => State.PanelOk := by
  induction text generalizing s with
  | nil => exact h
  | cons ch rest ih =>
    refine Run.post_andThen ?_ fun _ => ih
    unfold drawChar
    split
    · exact Run.post_andThen (panelOk_drawGlyph _ _ _ _ _ h) fun t ht => ht.kept (windowKept_advanceCursor t)
    · exact h

theorem panelOk_needDisplay_andThen {f : State → Run} (h : s.PanelOk)
    (hf : (f s).Post State.PanelOk fun _ => State.PanelOk) :
    ((needDisplay s).andThen f).Post State.PanelOk fun _ => State.PanelOk := by
  unfold needDisplay
  split
  · exact hf
  · exact h

theorem panelOk_dsSetWindow (x0 y0 x1 y1 : Half) (h : s.PanelOk) :
    (dsSetWindow x0 y0 x1 y1 s).Post State.PanelOk fun _ => State.PanelOk := by
  refine panelOk_needDisplay_andThen h ?_
  split
  next hw => exact (panelOk_setWindow h hw).mono (fun _ ht => ht.1) fun _ _ => id
  next => exact h

theorem panelOk_dsFillRect (x y w h color : Half) (hs : s.PanelOk) :
    (dsFillRect x y w h color s).Post State.PanelOk fun _ => State.PanelOk := by
  refine panelOk_needDisplay_andThen hs ?_
  split
  next => exact hs.kept ⟨rfl, id, id, rfl, le_rfl, rfl⟩
  next he => exact panelOk_fillClamped color hs (rectEmpty_eq_false_iff.mp (Bool.not_eq_true _ ▸ he))

/-- `DS_PUSH` is refused where no pixel is left. -/
theorem panelOk_dsPush (color : Half) (h : s.PanelOk) :
    (dsPush color s).Post State.PanelOk fun _ => State.PanelOk := by
  refine panelOk_needDisplay_andThen h ?_
  split
  next ho =>
    have hpos : s.dsp.remain.toNat ≠ 0 := fun h0 => (streamOpen_iff.mp ho).2 (BitVec.eq_of_toNat_eq h0)
    have hleft : s.Filling 1 := ⟨h, Nat.one_le_iff_ne_zero.mpr hpos⟩
    exact Run.post_andThen (filling_dsData _ hleft) fun _ ht => (filling_spend le_rfl ht).toPanelOk
  next => exact h

theorem panelOk_dsDrawText (x y color : Half) (hasBg : Bool) (bg : Half) (text : List Byte) (h : s.PanelOk) :
    (dsDrawText x y color hasBg bg text s).Post State.PanelOk fun _ => State.PanelOk :=
  panelOk_needDisplay_andThen h (panelOk_drawChars _ _ _ _ (h.kept ⟨rfl, id, id, rfl, le_rfl, rfl⟩))

/-- Every host command of DSP keeps its part of the invariant. -/
theorem panelOk_exec_display {i : Instr} {t : State} (hi : needsDisplay i = true ∨ i = .dsNew) (h : s.PanelOk)
    (he : exec i s = .next t) : t.PanelOk := by
  obtain ⟨r, hr, hexec⟩ : ∃ r : Run, r.Post State.PanelOk (fun _ => State.PanelOk)
      ∧ exec i s = .next (r.finish .dsp noPayload) := by
    cases i with
    | dsNew => exact ⟨_, WindowKept.run_panelOk (windowKept_dsNew s) h, rfl⟩
    | dsSetWindow => exact ⟨_, panelOk_dsSetWindow _ _ _ _ h, rfl⟩
    | dsFillRect => exact ⟨_, panelOk_dsFillRect _ _ _ _ _ h, rfl⟩
    | dsPixel => exact ⟨_, panelOk_needDisplay_andThen h (panelOk_pixel _ _ _ h), rfl⟩
    | dsDrawText => exact ⟨_, panelOk_dsDrawText _ _ _ _ _ _ h, rfl⟩
    | dsPush => exact ⟨_, panelOk_dsPush _ h, rfl⟩
    | _ => exact absurd hi (by simp [needsDisplay])
  exact panelOk_finish hr (Host.Outcome.next.inj (hexec.symm.trans he))

end

end Sys2Proof.Machine
end

section
/-! The invariant of the idle block along a host command (`70_reset_and_hazards.md` R316): what each unit's commands keep of it. -/

namespace Sys2Proof.Machine

open Sys2Proof.Claims

/-- The invariant but for `BUSY`, which an accepted command has set. -/
structure State.Steady (s : State) : Prop where
  swIdle    : s.sws.seq = .idle
  released  : s.sws.oe = false
  cbIdle    : s.cbs.seq = .idle
  readNew   : s.cbs.rvalid = true → s.cbs.ready = true
  dsIdle    : s.dsp.seq = .idle
  streamNew : s.dsp.stream = true → s.dsp.ready = true
  panel     : s.PanelOk

theorem inv_iff_steady {s : State} : s.Inv ↔ s.busy = false ∧ s.Steady := by
  constructor
  · rintro ⟨hcfg, ⟨hbusy, hsw, hcb, hds, hoe, hcs⟩, hstream, hwindow, hread, hchunk⟩
    exact ⟨hbusy, hsw, hoe, hcb, hread, hds, hstream, hcfg, hcs, hwindow, hchunk⟩
  · rintro ⟨hbusy, hsw, hoe, hcb, hread, hds, hstream, hcfg, hcs, hwindow, hchunk⟩
    exact ⟨hcfg, ⟨hbusy, hsw, hcb, hds, hoe, hcs⟩, hstream, hwindow, hread, hchunk⟩

/-- Neither a host's move nor the acceptance or the refusal of its packet touches what the invariant speaks of. -/
theorem steady_of_eq {s t : State} (h : s.Steady) (hcfg : t.cfg = s.cfg) (hsws : t.sws = s.sws) (hcbs : t.cbs = s.cbs)
    (hdsp : t.dsp = s.dsp) : t.Steady := by
  refine ⟨?_, ?_, ?_, ?_, ?_, ?_, h.panel.kept (.of_eq hcfg hdsp)⟩
  · rw [hsws, h.swIdle]
  · rw [hsws, h.released]
  · rw [hcbs, h.cbIdle]
  · rw [hcbs]
    exact h.readNew
  · rw [hdsp, h.dsIdle]
  · rw [hdsp]
    exact h.streamNew

/-- A host command clears `BUSY`, and its unit's sequencer is `IDLE`. -/
theorem exec_idleAt {i : Instr} {s t : State} (hi : i.isCommand = true) (he : exec i s = .next t) :
    t.busy = false ∧ t.IdleAt (unitOf i) := by
  obtain ⟨payload, hexec⟩ := exec_command hi
  obtain rfl := Host.Outcome.next.inj ((hexec s).symm.trans he)
  exact ⟨finish_busy _ _ _, finish_idleAt _ _ _⟩

/-! ## SWS -/

/-- The block does not drive the line. -/
def State.Released (s : State) : Prop := s.sws.oe = false

section
variable {s : State}

theorem released_awaitLevel (q : SwSeq) (level : Bool) (bound : Nat) (h : s.Released) :
    (awaitLevel q level bound s).Ends State.Released := by
  obtain ⟨_, _, t, _, hsws, _, hrun⟩ := awaitLevel_cases q level bound s
  have ht : t.Released := (congrArg Sws.oe hsws).trans h
  rcases hrun with ⟨hr, _⟩ | hr <;> rw [hr] <;> exact ht

theorem released_readBit (h : s.Released) : (readBit s).Ends State.Released := by
  refine Run.ends_andThen (Run.ends_andThen (released_awaitLevel _ _ _ h) fun _ => released_awaitLevel _ _ _) fun m hm => ?_
  rw [highPhase_eq]
  exact Run.ends_andThen (released_awaitLevel _ _ _ hm) fun _ => id

theorem released_readBits (n : Nat) (h : s.Released) : (readBits n s).Ends State.Released := by
  induction n generalizing s with
  | zero => exact h
  | succ n ih => exact Run.ends_andThen (released_readBit h) fun _ => ih

theorem released_checkAndCommit (h : s.Released) : (checkAndCommit s).Ends State.Released := by
  unfold checkAndCommit
  split <;> exact h

/-- The start pulse ends in the line's release, and nothing after it drives the line. -/
theorem released_handshake (s : State) : (handshake s).Ends State.Released := by
  have hpulse : (startPulse s).Released := congrArg Sws.oe (startPulse_sws s)
  refine Run.ends_andThen (Run.ends_andThen (Run.ends_andThen (released_awaitLevel _ _ _ hpulse) ?_) ?_) ?_
  · exact fun _ => released_awaitLevel _ _ _
  · exact fun m hm => released_readBits 40 (s := firstBit m) hm
  · exact fun _ => released_checkAndCommit

theorem released_swMeasure (h : s.Released) : (swMeasure s).Ends State.Released := by
  unfold swMeasure
  split
  · exact h
  · exact released_handshake s

theorem released_needReading (h : s.Released) : (needReading s).Ends State.Released := by
  unfold needReading
  split <;> exact h

theorem released_finish {payload : State → List Byte} {r : Run} (hr : r.Ends State.Released) :
    (r.finish .sws payload).Released := Run.finish_ends hr (fun _ _ h => h) fun _ _ _ => rfl

theorem released_exec_sws {i : Instr} {t : State} (hi : isSws i = true) (h : s.Released) (he : exec i s = .next t) :
    t.Released := by
  cases i with
  | swMeasure =>
    cases he
    exact released_finish (released_swMeasure h)
  | swTemperature | swHumidity =>
    cases he
    exact released_finish (released_needReading h)
  | _ => exact nomatch hi

end

/-- No other unit drives the line, or moves the sequencer of SWS. -/
theorem steady_sws_of_released {a b : Sws} (h : b = a ∨ b = { a with oe := false }) (hidle : a.seq = .idle)
    (hoe : a.oe = false) : b.seq = .idle ∧ b.oe = false := by
  rcases h with rfl | rfl
  · exact ⟨hidle, hoe⟩
  · exact ⟨hidle, rfl⟩

/-! ## CBS -/

/-- `CB_READ` takes a pair only from a constructed unit, and `CB_NEW` drops the pair (`10_state.md` R31, R36). -/
theorem readNew_exec_cbs {i : Instr} {s t : State} (hi : isCbs i = true) (h : s.cbs.rvalid = true → s.cbs.ready = true)
    (he : exec i s = .next t) : t.cbs.rvalid = true → t.cbs.ready = true := by
  cases i with
  | cbNew addr => exact fun hv => nomatch hv.symm.trans (exec_cbNew_flags he).1
  | cbRead =>
    cases hready : s.cbs.ready with
    | true => exact fun _ => (exec_cbRead_flags he).1.ready.trans hready
    | false =>
      obtain rfl := Host.Outcome.next.inj ((exec_cbRead_of_run (cbRead_not_ready hready)).symm.trans he)
      exact h
  | cbAltitude p p0 =>
    obtain ⟨hsame, hvalid⟩ := exec_cbAltitude_flags he
    rw [hvalid, hsame.ready]
    exact h
  | _ => exact nomatch hi

/-! ## DSP -/

/-- Without a display no window is opened, and `DS_NEW` opens none (`10_state.md` R37, R39). -/
theorem streamNew_exec_display {i : Instr} {s t : State} (hi : needsDisplay i = true ∨ i = .dsNew)
    (h : s.dsp.stream = true → s.dsp.ready = true) (he : exec i s = .next t) :
    t.dsp.stream = true → t.dsp.ready = true := by
  rcases hi with hi | rfl
  · cases hready : s.dsp.ready with
    | true => exact fun _ => (exec_dsReady he (by rintro rfl; exact nomatch hi)).trans hready
    | false =>
      obtain rfl := Host.Outcome.next.inj ((exec_not_ready hi hready).symm.trans he)
      exact h
  · exact fun hs => nomatch hs.symm.trans (exec_dsNew_flags he).1

/-! ## The step -/

/-- Every host command ends with the invariant it began with, and `BUSY` cleared. -/
theorem inv_exec {i : Instr} {s t : State} (hi : i.isCommand = true) (h : s.Steady) (he : exec i s = .next t) : t.Inv := by
  obtain ⟨hbusy, hidle⟩ := exec_idleAt hi he
  refine inv_iff_steady.mpr ⟨hbusy, ?_⟩
  rcases exec_unit_cases he with ⟨hs, _, k⟩ | ⟨_, hc, k⟩ | ⟨hs, hc, k⟩
  · rw [unitOf_sws hs] at hidle
    refine ⟨hidle, released_exec_sws hs h.released he, ?_, ?_, ?_, ?_, h.panel.kept (.of_eq k.cfg k.dsp)⟩
    · rw [k.cbs, h.cbIdle]
    · rw [k.cbs]
      exact h.readNew
    · rw [k.dsp, h.dsIdle]
    · rw [k.dsp]
      exact h.streamNew
  · rw [unitOf_cbs hc] at hidle
    obtain ⟨hsw, hoe⟩ := steady_sws_of_released k.sws h.swIdle h.released
    refine ⟨hsw, hoe, hidle, readNew_exec_cbs hc h.readNew he, ?_, ?_, h.panel.kept (.of_eq k.cfg k.dsp)⟩
    · rw [k.dsp, h.dsIdle]
    · rw [k.dsp]
      exact h.streamNew
  · rw [unitOf_dsp hs hc] at hidle
    obtain ⟨hsw, hoe⟩ := steady_sws_of_released k.sws h.swIdle h.released
    have hd : needsDisplay i = true ∨ i = .dsNew :=
      (command_cases hi).resolve_left (by rw [hs, hc]; rintro (h | h) <;> exact nomatch h)
    refine ⟨hsw, hoe, ?_, ?_, hidle, streamNew_exec_display hd h.streamNew he, panelOk_exec_display hd h.panel he⟩
    · rw [k.cbs, h.cbIdle]
    · rw [k.cbs]
      exact h.readNew

/-- A move of the host keeps the invariant. -/
theorem inv_step_idle {s t : State} (h : s.Inv) (ht : step s = .next t) : t.Inv := by
  obtain ⟨hb, hs⟩ := inv_iff_steady.mp h
  rcases step_idle_cases hb ht with ⟨_, rfl⟩ | ⟨_, _, _, rfl⟩ | ⟨_, _, rest, i, _, hdec, he⟩ | ⟨_, _, _, _, _, _, rfl⟩
  · exact inv_iff_steady.mpr ⟨hb, steady_of_eq hs rfl rfl rfl rfl⟩
  · exact inv_iff_steady.mpr ⟨hb, steady_of_eq hs rfl rfl rfl rfl⟩
  · have haccepted : (s.withPort rest).accept.Steady := steady_of_eq hs rfl rfl rfl rfl
    exact inv_exec (isPacketOf_of_decode hdec).isCommand haccepted he
  · exact inv_iff_steady.mpr ⟨rfl, steady_of_eq hs rfl rfl rfl rfl⟩

end Sys2Proof.Machine
end

section
/-! A step inside an operation does not see the port (`10_state.md` R23, `70_reset_and_hazards.md` R304): with other moves of the host
waiting it does the same, and leaves them waiting. -/

namespace Sys2Proof.Machine

/-- The function neither reads nor writes the host's moves. -/
def PortBlind (f : State → State) : Prop := ∀ moves s, f (s.withPort moves) = (f s).withPort moves

/-- Nor do these statements, wherever they stop. -/
def RunPortBlind (f : State → Run) : Prop := ∀ moves s, f (s.withPort moves) = (f s).map (State.withPort moves)

/-- Nor does this primitive, which answers a value too. -/
def CallPortBlind {α : Type} (f : State → α × State) : Prop :=
  ∀ moves s, f (s.withPort moves) = ((f s).1, (f s).2.withPort moves)

/-! ## Sequencing -/

section
variable {f g : State → State} {r q : State → Run}

theorem PortBlind.comp (hg : PortBlind g) (hf : PortBlind f) : PortBlind fun s => g (f s) := fun moves s => by
  dsimp only
  rw [hf, hg]

/-- A test of anything but the moves. -/
theorem PortBlind.ite {c : State → Prop} [∀ s, Decidable (c s)] (hc : ∀ moves s, c (s.withPort moves) ↔ c s)
    (hf : PortBlind f) (hg : PortBlind g) : PortBlind fun s => if c s then f s else g s := fun moves s => by
  dsimp only
  by_cases h : c s
  · rw [if_pos h, if_pos ((hc moves s).mpr h), hf]
  · rw [if_neg h, if_neg (mt (hc moves s).mp h), hg]

theorem RunPortBlind.comp (hr : RunPortBlind r) (hf : PortBlind f) : RunPortBlind fun s => r (f s) := fun moves s => by
  dsimp only
  rw [hf, hr]

theorem RunPortBlind.andThen (hr : RunPortBlind r) (hq : RunPortBlind q) : RunPortBlind fun s => (r s).andThen q :=
  fun moves s => by
  dsimp only
  rw [hr, Run.map_andThen (r s) (hq moves)]

theorem portBlind_fail (u : BlockUnit) (e : Status) : PortBlind (State.fail u e) := fun _ _ => by cases u <;> rfl

theorem RunPortBlind.goOn (hr : RunPortBlind r) (hf : PortBlind f) (u : BlockUnit) :
    PortBlind fun s => (r s).goOn u f := fun moves s => by
  dsimp only
  rw [hr]
  cases r s with
  | ok m => exact hf moves m
  | err e m => exact portBlind_fail u e moves m

end

/-! ## The tick machine of SWS -/

theorem portBlind_lineSample : CallPortBlind lineSample := fun moves s => by
  cases h : s.env.line <;> simp [lineSample, State.nextLevel, h, State.withPort, State.tickBy, State.log]

theorem portBlind_swEnterAckL : PortBlind swEnterAckL := fun _ _ => rfl

theorem portBlind_swEnterStartH : PortBlind swEnterStartH :=
  .ite (fun _ _ => .rfl) (fun _ _ => rfl) fun _ _ => rfl

theorem portBlind_swEnterStartL : PortBlind swEnterStartL :=
  .ite (fun _ _ => .rfl) (portBlind_swEnterStartH.comp (f := fun s => (swEnter .startL (lineDrive false s)).log (.delay 0))
    fun _ _ => rfl) fun _ _ => rfl

/-- A sample is counted, and may be the last that a wait is given. -/
theorem portBlind_countSample (bound : Nat) : PortBlind fun s =>
    if bound ≤ s.sws.cnt + 1 then (s.swCount (s.sws.cnt + 1)).fail .sws .timeoutError else s.swCount (s.sws.cnt + 1) :=
  .ite (fun _ _ => .rfl) (fun _ _ => rfl) fun _ _ => rfl

section
variable {next : State → State}

theorem portBlind_swDriven (n : Nat) (hn : PortBlind next) : PortBlind (swDriven n next) :=
  .ite (fun _ _ => .rfl) (hn.comp (f := fun s => ((s.tickBy 1).swCount (s.sws.cnt + 1)).log (.delay n)) fun _ _ => rfl)
    fun _ _ => rfl

theorem portBlind_swWaiting (level : Bool) (bound : Nat) (hn : PortBlind next) :
    PortBlind (swWaiting level bound next) := fun moves s => by
  unfold swWaiting
  rw [portBlind_lineSample moves s]
  dsimp only
  split
  · exact hn moves _
  · exact portBlind_countSample bound moves _

end

theorem portBlind_checkAndCommit : RunPortBlind checkAndCommit := fun moves s => by
  unfold checkAndCommit
  rw [withPort_sws]
  split <;> rfl

theorem portBlind_swMeasuring : PortBlind swMeasuring := fun moves s => by
  have hstore : PortBlind fun t => if (storeBit t).sws.bit < 40 then swEnter .fall (storeBit t)
      else (checkAndCommit (storeBit t)).finish .sws noPayload :=
    .ite (fun _ _ => .rfl) (fun _ _ => rfl) ((portBlind_checkAndCommit.goOn (fun _ _ => rfl) .sws).comp fun _ _ => rfl)
  unfold swMeasuring
  rw [portBlind_lineSample moves s]
  dsimp only
  split
  · exact portBlind_countSample (lineSample s).2.cfg.swNBit moves (lineSample s).2
  · exact hstore moves _

theorem portBlind_swTick : PortBlind swTick := fun moves s => by
  unfold swTick
  rw [withPort_sws]
  split
  · rfl
  · exact portBlind_swDriven _ portBlind_swEnterStartL moves s
  · exact portBlind_swDriven _ portBlind_swEnterStartH moves s
  · exact portBlind_swDriven _ portBlind_swEnterAckL moves s
  · exact portBlind_swWaiting _ _ (fun _ _ => rfl) moves s
  · exact portBlind_swWaiting _ _ (fun _ _ => rfl) moves s
  · exact portBlind_swWaiting _ _ (fun _ _ => rfl) moves s
  · exact portBlind_swWaiting _ _ (fun _ _ => rfl) moves s
  · exact portBlind_swMeasuring moves s

/-! ## The statements of CBS -/

theorem portBlind_i2cRead (a : BitVec 7) (reg : Byte) (n : Nat) : CallPortBlind (i2cRead a reg n) := fun moves s => by
  cases h : s.env.i2c <;> simp [i2cRead, State.nextI2c, h, State.withPort, State.tickBy, State.log]

theorem portBlind_i2cWrite (a : BitVec 7) (reg : Byte) (bytes : List Byte) : CallPortBlind (i2cWrite a reg bytes) :=
  fun moves s => by
  cases h : s.env.i2c <;> simp [i2cWrite, State.nextI2c, h, State.withPort, State.tickBy, State.log]

theorem portBlind_cbAt (q : CbSeq) : PortBlind (State.cbAt q) := fun _ _ => rfl

theorem portBlind_probe (addr : BitVec 7) (second : Bool) : CallPortBlind (probe addr second) := fun moves s => by
  unfold probe
  rw [portBlind_cbAt, withPort_cfg, portBlind_i2cRead]

theorem portBlind_cbCalib (found : BitVec 7) : RunPortBlind (cbCalib found) := fun moves s => by
  unfold cbCalib
  rw [portBlind_cbAt, withPort_cfg, portBlind_i2cRead]
  dsimp only
  split <;> rfl

theorem portBlind_cbConfig (found : BitVec 7) : RunPortBlind (cbConfig found) := fun moves s => by
  unfold cbConfig
  rw [portBlind_cbAt, withPort_cfg, portBlind_i2cWrite]
  dsimp only
  split <;> rfl

theorem portBlind_cbCheck : RunPortBlind cbCheck := fun moves s => by
  unfold cbCheck
  rw [withPort_cbs]
  split <;> rfl

theorem portBlind_cbReadT : RunPortBlind cbReadT := fun moves s => by
  unfold cbReadT
  rw [portBlind_cbAt, withPort_cfg, withPort_cbs, portBlind_i2cRead]
  dsimp only
  split <;> rfl

theorem portBlind_cbReadP : RunPortBlind cbReadP := fun moves s => by
  unfold cbReadP
  rw [portBlind_cbAt, withPort_cfg, withPort_cbs, portBlind_i2cRead]
  dsimp only
  split <;> rfl

theorem portBlind_cbStatement : PortBlind cbStatement := fun moves s => by
  unfold cbStatement
  rw [withPort_cbs]
  split
  · rfl
  · rfl
  next addr second _ =>
    rw [portBlind_probe]
    dsimp only
    split
    · rfl
    · split <;> rfl
  · exact (portBlind_cbCalib _).goOn (portBlind_cbAt _) .cbs moves s
  · exact (portBlind_cbConfig _).goOn (portBlind_cbAt _) .cbs moves s
  · rfl
  · exact portBlind_cbCheck.goOn (portBlind_cbAt _) .cbs moves s
  · exact portBlind_cbReadT.goOn (portBlind_cbAt _) .cbs moves s
  · exact portBlind_cbReadP.goOn (portBlind_cbAt _) .cbs moves s
  · rfl
  · split <;> rfl
  · rfl

/-! ## The statements of DSP -/

theorem portBlind_dsAt (q : DsSeq) : PortBlind (State.dsAt q) := fun _ _ => rfl

theorem portBlind_checked_spiTransfer (dc : Bool) (event : Bool → Event) :
    RunPortBlind fun s => checked (spiTransfer dc event s) := fun moves s => by
  have h : spiTransfer dc event (s.withPort moves)
      = ((spiTransfer dc event s).1, (spiTransfer dc event s).2.withPort moves) := by
    unfold spiTransfer State.nextSpi
    cases hc : s.cfg.dsHasCs <;> cases hs : s.env.spi <;>
      simp [chipSelect, State.tickBy, State.log, State.withPort, hc, hs]
  unfold checked
  dsimp only
  rw [h]
  split <;> rfl

theorem portBlind_dsCmd (b : Byte) : RunPortBlind (dsCmd b) := portBlind_checked_spiTransfer false (.spiCmd b)

theorem portBlind_dsData (bytes : List Byte) : RunPortBlind (dsData bytes) :=
  portBlind_checked_spiTransfer true (.spiData bytes)

theorem portBlind_sendEntry (e : InitEntry) : RunPortBlind (sendEntry e) := by
  have hdata : RunPortBlind fun s => if e.data = [] then .ok s else dsData e.data s := by
    split
    · exact fun _ _ => rfl
    · exact portBlind_dsData e.data
  exact ((portBlind_dsCmd e.op).andThen hdata).andThen fun _ _ => rfl

theorem portBlind_sendInit (k : Fin 16) : RunPortBlind (sendInit k) := fun moves s =>
  portBlind_sendEntry s.cfg.dsInitSeq[k] moves s

theorem portBlind_sendCaset (x0 x1 : Half) : RunPortBlind (sendCaset x0 x1) := fun moves s =>
  ((portBlind_dsCmd s.cfg.dsOpCaset).andThen (portBlind_dsData (boundBytes x0 x1))) moves s

theorem portBlind_sendRaset (y0 y1 : Half) : RunPortBlind (sendRaset y0 y1) := fun moves s =>
  ((portBlind_dsCmd s.cfg.dsOpRaset).andThen (portBlind_dsData (boundBytes y0 y1))) moves s

theorem portBlind_sendRamwr : RunPortBlind sendRamwr := fun moves s => portBlind_dsCmd s.cfg.dsOpRamwr moves s

theorem portBlind_setWindow (x0 y0 x1 y1 : Half) : RunPortBlind (setWindow x0 y0 x1 y1) :=
  (((portBlind_sendCaset x0 x1).andThen (portBlind_sendRaset y0 y1)).andThen portBlind_sendRamwr).andThen fun _ _ => rfl

theorem portBlind_streamChunk (n : Nat) : RunPortBlind (streamChunk n) := fun moves s =>
  (((portBlind_dsData (chunkBytes (min n s.cfg.dsChunk) s.dsp.chunk)).comp (portBlind_dsAt (.stream n))).andThen
    (q := fun t => .ok (spend (min n s.cfg.dsChunk) t)) fun _ _ => rfl) moves s

theorem portBlind_backlightOn : PortBlind backlightOn := fun moves s => by
  unfold backlightOn
  rw [withPort_cfg]
  split <;> rfl

theorem portBlind_dsStatement : PortBlind dsStatement := fun moves s => by
  unfold dsStatement
  rw [withPort_dsp, withPort_cfg]
  split
  · rfl
  · rfl
  · exact (portBlind_dsAt .done).comp portBlind_backlightOn moves s
  · rfl
  · split <;> rfl
  · exact (portBlind_setWindow _ _ _ _).goOn (portBlind_dsAt _) .dsp moves s
  · rfl
  · split
    · rfl
    · exact (portBlind_streamChunk _).goOn (portBlind_dsAt _) .dsp moves s
  all_goals rfl

theorem portBlind_afterWire : PortBlind afterWire := fun moves s => by
  unfold afterWire
  rw [withPort_dsp]
  split
  · split <;> rfl
  all_goals rfl

/-- The wire command at a label is such statements. -/
theorem exec_wireAt {q : DsSeq} {i : Instr} (hw : wireAt q = some i) :
    ∃ r, RunPortBlind r ∧ ∀ s, exec i s = .next (r s).statement := by
  cases q with
  | init k =>
    obtain rfl := Option.some.inj hw
    exact ⟨_, portBlind_sendInit k, exec_initInstr k⟩
  | caset x0 y0 x1 y1 =>
    obtain rfl := Option.some.inj hw
    exact ⟨_, portBlind_sendCaset x0 x1, fun _ => rfl⟩
  | raset x0 y0 x1 y1 =>
    obtain rfl := Option.some.inj hw
    exact ⟨_, portBlind_sendRaset y0 y1, fun _ => rfl⟩
  | ramwr x0 y0 x1 y1 =>
    obtain rfl := Option.some.inj hw
    exact ⟨_, portBlind_sendRamwr, fun _ => rfl⟩
  | _ => exact nomatch hw

/-! ## The step -/

theorem portBlind_innerStatement : PortBlind innerStatement :=
  .ite (fun _ _ => .rfl) portBlind_dsStatement (.ite (fun _ _ => .rfl) portBlind_cbStatement fun _ _ => rfl)

/-- What a step is at a label: a function of the state that does not see the port. -/
theorem stepBusy_next (s : State) :
    ∃ f, PortBlind f ∧ ∀ moves, stepBusy (s.withPort moves) = .next (f (s.withPort moves)) := by
  by_cases hi : s.sws.seq = .idle
  · cases hw : wireAt s.dsp.seq with
    | some i =>
      obtain ⟨r, hr, hexec⟩ := exec_wireAt hw
      have hgoOn : PortBlind fun t => if t.busy then afterWire t else t :=
        .ite (fun _ _ => .rfl) portBlind_afterWire fun _ _ => rfl
      refine ⟨_, hgoOn.comp (hr.goOn (f := id) (fun _ _ => rfl) .dsp), fun moves => ?_⟩
      rw [stepBusy, withPort_sws, if_pos hi, withPort_dsp, hw]
      exact congrArg inOperation (hexec _)
    | none =>
      refine ⟨_, portBlind_innerStatement, fun moves => ?_⟩
      rw [stepBusy, withPort_sws, if_pos hi, withPort_dsp, hw]
  · refine ⟨_, portBlind_swTick, fun moves => ?_⟩
    rw [stepBusy, withPort_sws, if_neg hi]

/-- A packet that meets a busy block is gone, and the step is made without it. -/
theorem step_busy_packet {s : State} {op : Byte} {rest : List Byte} {moves : List HostMove} (hb : s.busy = true) :
    step (s.withPort (.packet op rest :: moves)) = stepBusy (s.withPort moves) := by
  unfold step
  rw [withPort_busy, hb]
  rfl

theorem step_busy_noMove {s : State} (hb : s.busy = true) : step (s.withPort []) = stepBusy (s.withPort []) := by
  unfold step
  rw [withPort_busy, hb]
  rfl

end Sys2Proof.Machine
end

section
/-! The statements of `70_reset_and_hazards.md`. -/

namespace Sys2Proof.Proofs

open Sys2Proof.Machine Sys2Proof.Claims

/-- Settles O11: the block is idle, so the step is a host's move, and a command keeps what its unit may write. -/
theorem everyStepKeepsTheInvariant : Obligations.EveryStepKeepsTheInvariant := fun _ _ => inv_step_idle

/-- Settles O10: both steps are the statement at the label, which does not see the port. -/
theorem busyPortAcceptsNothing : Obligations.BusyPortAcceptsNothing := by
  intro s op rest moves hb
  obtain ⟨f, hf, hstep⟩ := stepBusy_next s
  refine ⟨f (s.withPort []), (step_busy_noMove hb).trans (hstep []), ?_⟩
  exact (step_busy_packet hb).trans ((hstep moves).trans (congrArg _ (hf moves (s.withPort []))))

/-- Settles O21: at reset no reading is held, no sensor constructed and no display ready, and ticks passing change none of it. -/
theorem resetAnswersNotReady : Obligations.ResetAnswersNotReady := by
  refine fun c n i => ⟨?_, fun hshut => nomatch hshut.1⟩
  rintro (rfl | rfl | rfl | hi)
  · rfl
  · rfl
  · exact exec_cbRead_of_run (cbRead_not_ready rfl)
  · exact exec_not_ready hi rfl

end Sys2Proof.Proofs
end
